-- ==== Sys2Proof/Word.lean ====
section
/-! DEFINITION. The data words of the block: bytes, 16- and 32-bit words, and register values tagged with their
representation (00_scope.md R9, R11). -/

namespace Sys2Proof

/-- A byte, 0 to 255 (00_scope.md R9). -/
abbrev Byte := BitVec 8

/-- `u16` of 00_scope.md R9. -/
abbrev U16 := BitVec 16

/-- `u32` of 00_scope.md R9: register indices, counts, error codes, channel ids, counters. -/
abbrev U32 := BitVec 32

/-- A representation (00_scope.md R11): the source's "int8, int16, int32, float", in that order. -/
inductive Rep where
  | i8
  | i16
  | i32
  | f32
deriving DecidableEq, Repr

/-- A register value: the pair (representation, bits) of 00_scope.md R11. The bits are never interpreted
(20_memory.md R57); an F32 value is its 32 raw bits. -/
inductive Value where
  | i8 (bits : BitVec 8)
  | i16 (bits : BitVec 16)
  | i32 (bits : BitVec 32)
  | f32 (bits : BitVec 32)
deriving DecidableEq, Repr

end Sys2Proof
end

