-- ==== Sys2Proof/Config.lean ====
section
/-! DEFINITION. The parameters of 00_scope.md R6 and the free answers of the SERVER oracle (R10). -/

namespace Sys2Proof

/-- `ROLE` (00_scope.md R3, R6): one instance has one role. -/
inductive Role where
  | server
  | client
deriving DecidableEq, Repr

/-- `CRC16 = (POLY, INIT, REFIN, REFOUT, XOROUT)` (00_scope.md R6, 41_frame_codec.md R110). -/
structure CrcParams where
  poly : U16
  init : U16
  refin : Bool
  refout : Bool
  xorout : U16
deriving DecidableEq, Repr

/-- The default CRC-16 variant (41_frame_codec.md R111, decision D5). -/
def CrcParams.default : CrcParams :=
  { poly := 0x1021#16, init := 0xFFFF#16, refin := false, refout := false, xorout := 0x0000#16 }

/-- The parameters of 00_scope.md R6, fixed for an instance's life (70_reset_and_hazards.md R282). -/
structure Config where
  /-- `ROLE`. -/
  role : Role
  /-- `BUFFER_SIZE`: longest received payload, and capacity of the reply and request buffers. -/
  bufferSize : Nat
  /-- `MAX_TUNNEL_STREAMS`: number of tunnel slots. -/
  maxTunnelStreams : Nat
  /-- `DEFAULT_ID`: node id at reset when the store holds none. -/
  defaultId : Byte
  /-- `STORED_ID`: the id the configuration store holds at construction. -/
  storedId : Option Byte
  /-- `TUNNEL_CAPACITY`: bytes per channel FIFO and direction. -/
  tunnelCapacity : Nat
  /-- `CRC16`. -/
  crc : CrcParams
  /-- `BROADCAST_ID`: a destination byte every node accepts. -/
  broadcastId : Option Byte
deriving DecidableEq, Repr

/-- The parameter values of `State.reset`: the server fixture of 95_test_vectors.md, with the defaults of
00_scope.md R6. DESIGN CHOICE (log entry 1), unsafe: `ROLE`, `BUFFER_SIZE` and `MAX_TUNNEL_STREAMS` are OPEN. -/
def Config.default : Config :=
  { role := .server, bufferSize := 64, maxTunnelStreams := 2, defaultId := 1#8, storedId := none,
    tunnelCapacity := 64, crc := CrcParams.default, broadcastId := none }

/-- The ranges of 00_scope.md R6: `BUFFER_SIZE` in [16, 2^28 - 1], `DEFAULT_ID` in 0..127,
`TUNNEL_CAPACITY` at least 1. -/
def Config.wf (c : Config) : Bool :=
  decide (16 ≤ c.bufferSize) && decide (c.bufferSize ≤ 2 ^ 28 - 1) && decide (c.defaultId.toNat ≤ 127) &&
    decide (1 ≤ c.tunnelCapacity)

/-- A call on the Server port (00_scope.md R10): `MemWrite(reg, rep, v)` with `rep` carried by `v`, or
`MemRead(reg, rep)`. -/
inductive ServerCall where
  | write (reg : U32) (v : Value)
  | read (reg : U32) (rep : Rep)
deriving DecidableEq, Repr

/-- The Server collaborator's answer to one call. `code` 0 is success; a read that succeeds gives the low
`8 * size(rep)` of `bits`. In this form every answer is well typed (00_scope.md R10, decision D7). -/
structure ServerAnswer where
  code : U32
  bits : U32
deriving DecidableEq, Repr, Inhabited

/-- The SERVER oracle (00_scope.md R6, R10; 93_implementation_defined.md I8): a free value, drawn with a counter
and the call. It has no body, so nothing can be proved of what it answers (log entry 3). Safe. -/
opaque Config.serverAnswer (n : Nat) (c : ServerCall) : ServerAnswer

end Sys2Proof
end

