-- ==== Sys2Proof/Syntax.lean ====
section
/-! DEFINITION. The instructions: one constructor per subframe type tag, that is per row of spec/opcode_table.json
(30_encoding.md R77, R80). A multiple or tunnel form's count is the length of its list. -/

namespace Sys2Proof

/-- A subframe (30_encoding.md R77, R80; 42_dispatcher.md R142). `reg`, `start`, `code` and `channel` are the
32-bit varuint fields of R79; values have the width of their representation. -/
inductive Instr where
  /-- 0x10 `WR.I8 reg, v` (R176). -/
  | wrI8 (reg : U32) (v : BitVec 8)
  /-- 0x11 `WR.I16 reg, v` (R177). -/
  | wrI16 (reg : U32) (v : BitVec 16)
  /-- 0x12 `WR.I32 reg, v` (R178). -/
  | wrI32 (reg : U32) (v : BitVec 32)
  /-- 0x13 `WR.F32 reg, v` (R179). -/
  | wrF32 (reg : U32) (v : BitVec 32)
  /-- 0x14 `WRM.I8 start, [v0, ...]` (R180). -/
  | wrmI8 (start : U32) (vs : List (BitVec 8))
  /-- 0x15 `WRM.I16 start, [v0, ...]` (R181). -/
  | wrmI16 (start : U32) (vs : List (BitVec 16))
  /-- 0x16 `WRM.I32 start, [v0, ...]` (R182). -/
  | wrmI32 (start : U32) (vs : List (BitVec 32))
  /-- 0x17 `WRM.F32 start, [v0, ...]` (R183). -/
  | wrmF32 (start : U32) (vs : List (BitVec 32))
  /-- 0x18 `RD.I8 reg` (R184). -/
  | rdI8 (reg : U32)
  /-- 0x19 `RD.I16 reg` (R185). -/
  | rdI16 (reg : U32)
  /-- 0x1A `RD.I32 reg` (R186). -/
  | rdI32 (reg : U32)
  /-- 0x1B `RD.F32 reg` (R187). -/
  | rdF32 (reg : U32)
  /-- 0x1C `RDM.I8 start, count` (R188). -/
  | rdmI8 (start : U32) (count : U32)
  /-- 0x1D `RDM.I16 start, count` (R189). -/
  | rdmI16 (start : U32) (count : U32)
  /-- 0x1E `RDM.I32 start, count` (R190). -/
  | rdmI32 (start : U32) (count : U32)
  /-- 0x1F `RDM.F32 start, count` (R191). -/
  | rdmF32 (start : U32) (count : U32)
  /-- 0x20 `RPL.I8 reg, v` (R192). -/
  | rplI8 (reg : U32) (v : BitVec 8)
  /-- 0x21 `RPL.I16 reg, v` (R193). -/
  | rplI16 (reg : U32) (v : BitVec 16)
  /-- 0x22 `RPL.I32 reg, v` (R194). -/
  | rplI32 (reg : U32) (v : BitVec 32)
  /-- 0x23 `RPL.F32 reg, v` (R195). -/
  | rplF32 (reg : U32) (v : BitVec 32)
  /-- 0x24 `RPLM.I8 start, [v0, ...]` (R196). -/
  | rplmI8 (start : U32) (vs : List (BitVec 8))
  /-- 0x25 `RPLM.I16 start, [v0, ...]` (R197). -/
  | rplmI16 (start : U32) (vs : List (BitVec 16))
  /-- 0x26 `RPLM.I32 start, [v0, ...]` (R198). -/
  | rplmI32 (start : U32) (vs : List (BitVec 32))
  /-- 0x27 `RPLM.F32 start, [v0, ...]` (R199). -/
  | rplmF32 (start : U32) (vs : List (BitVec 32))
  /-- 0x28 `WERR reg, code` (R200). -/
  | werr (reg : U32) (code : U32)
  /-- 0x29 `RERR reg, code` (R201). -/
  | rerr (reg : U32) (code : U32)
  /-- 0x40 `TUNC2S ch, [b0, ...]` (R211). -/
  | tunC2S (channel : U32) (bytes : List Byte)
  /-- 0x41 `TUNS2C ch, [b0, ...]` (R212). -/
  | tunS2C (channel : U32) (bytes : List Byte)
deriving DecidableEq, Repr

end Sys2Proof
end

