-- ==== Sys2Proof/WellFormed.lean ====
section
/-! DEFINITION. Well-formed instructions: the shape rules of 30_encoding.md R81 that a term of `Instr` can break. -/

namespace Sys2Proof

/-- A multiple form of `n` registers from `start`: `n` is a `u32`, and with `n >= 1` the last register
`start + n - 1` is at most 2^32 - 1 (30_encoding.md R79, R81 (c)). -/
def rangeWf (start : U32) (n : Nat) : Bool :=
  decide (n < 2 ^ 32) && decide (start.toNat + n ≤ 2 ^ 32)

/-- A read-multiple form: the range check, and `count <= BUFFER_SIZE` (30_encoding.md R81 (c), (d)). -/
def readRangeWf (bufferSize : Nat) (start count : U32) : Bool :=
  rangeWf start count.toNat && decide (count.toNat ≤ bufferSize)

/-- A tunnel form: the number of bytes is a `u32` (30_encoding.md R79). -/
def bytesWf (bytes : List Byte) : Bool :=
  decide (bytes.length < 2 ^ 32)

/-- Well-formed for a block of the given `BUFFER_SIZE`. Every field of a single or error form is in range by its
type; an error code of 0 is well-formed (43_register_rpc.md R200; log entry 12). -/
def Instr.wf (bufferSize : Nat) : Instr → Bool
  | .wrI8 _ _ => true
  | .wrI16 _ _ => true
  | .wrI32 _ _ => true
  | .wrF32 _ _ => true
  | .wrmI8 start vs => rangeWf start vs.length
  | .wrmI16 start vs => rangeWf start vs.length
  | .wrmI32 start vs => rangeWf start vs.length
  | .wrmF32 start vs => rangeWf start vs.length
  | .rdI8 _ => true
  | .rdI16 _ => true
  | .rdI32 _ => true
  | .rdF32 _ => true
  | .rdmI8 start count => readRangeWf bufferSize start count
  | .rdmI16 start count => readRangeWf bufferSize start count
  | .rdmI32 start count => readRangeWf bufferSize start count
  | .rdmF32 start count => readRangeWf bufferSize start count
  | .rplI8 _ _ => true
  | .rplI16 _ _ => true
  | .rplI32 _ _ => true
  | .rplF32 _ _ => true
  | .rplmI8 start vs => rangeWf start vs.length
  | .rplmI16 start vs => rangeWf start vs.length
  | .rplmI32 start vs => rangeWf start vs.length
  | .rplmF32 start vs => rangeWf start vs.length
  | .werr _ _ => true
  | .rerr _ _ => true
  | .tunC2S _ bytes => bytesWf bytes
  | .tunS2C _ bytes => bytesWf bytes

end Sys2Proof
end

