-- ==== Sys2Proof/Decode.lean ====
section
/-! DEFINITION. The varuint codec (40_varuint.md), the subframe decoder (42_dispatcher.md R143, 45_client.md R231),
total on any bytes and rejecting by name, and the subframe encoder (45_client.md R222). -/

namespace Sys2Proof

/-! Byte order and representation widths. -/

/-- `size(rep)` (00_scope.md R11): bytes of a value. -/
def Rep.size : Rep → Nat
  | .i8 => 1
  | .i16 => 2
  | .i32 => 4
  | .f32 => 4

/-- The representation carried by a value (00_scope.md R11). -/
def Value.rep : Value → Rep
  | .i8 _ => .i8
  | .i16 _ => .i16
  | .i32 _ => .i32
  | .f32 _ => .f32

/-- The raw bits of a value, widened with zeros to 32 bits. -/
def Value.bits : Value → U32
  | .i8 b => b.setWidth 32
  | .i16 b => b.setWidth 32
  | .i32 b => b
  | .f32 b => b

/-- The value of a representation with the given low bits (20_memory.md R57: no conversion). -/
def Value.ofBits : Rep → U32 → Value
  | .i8, b => .i8 (b.setWidth 8)
  | .i16, b => .i16 (b.setWidth 16)
  | .i32, b => .i32 b
  | .f32, b => .f32 b

/-- The `n` bytes of a number, least significant first: `le16`, `le32` of 00_scope.md R9 (20_memory.md R53). -/
def leBytes : Nat → Nat → List Byte
  | 0, _ => []
  | n + 1, x => BitVec.ofNat 8 x :: leBytes n (x / 256)

/-- The number whose bytes, least significant first, are given (20_memory.md R53). -/
def leNat : List Byte → Nat
  | [] => 0
  | b :: bs => b.toNat + 256 * leNat bs

/-! Varuints (40_varuint.md). -/

/-- The loop of `VarEncode` (40_varuint.md R100) with at most `fuel` bytes; five are enough for a `u32`. -/
def varEncodeLoop : Nat → Nat → List Byte
  | 0, _ => []
  | fuel + 1, v =>
    if v / 128 = 0 then [BitVec.ofNat 8 (v % 128)]
    else BitVec.ofNat 8 (128 + v % 128) :: varEncodeLoop fuel (v / 128)

/-- `VarEncode(v)` (40_varuint.md R100). -/
def varEncode (v : U32) : List Byte :=
  varEncodeLoop 5 v.toNat

/-- `vlen(v)` (40_varuint.md R101). -/
def vlen (v : U32) : Nat :=
  (varEncode v).length

/-- The loop of `VarDecode` (40_varuint.md R102): `left` more bytes may be read, `i` have been, `acc` is their
value. `none` is `MALFORMED`: the list ended mid-sequence, or the last byte allowed still continues (R103). -/
def varDecodeLoop : Nat → Nat → Nat → List Byte → Option (U32 × Nat)
  | 0, _, _, _ => none
  | _ + 1, _, _, [] => none
  | left + 1, i, acc, b :: bs =>
    let sum := acc + b.toNat % 128 * 2 ^ (7 * i)
    if b.toNat < 128 then some (BitVec.ofNat 32 sum, i + 1) else varDecodeLoop left (i + 1) sum bs

/-- `VarDecode(buf, pos)` (40_varuint.md R102) on the bytes from `pos` on: the value modulo 2^32 (R104) and the
number of bytes consumed; non-minimal encodings are accepted (R105). -/
def varDecode (buf : List Byte) : Option (U32 × Nat) :=
  varDecodeLoop 5 0 0 buf

/-! Decoding. -/

/-- Why a subframe is `MalformedSubframe` (30_encoding.md R81, R82). -/
inductive Malformed where
  /-- R81 (a): a varuint field is malformed or runs past the payload. -/
  | varuint
  /-- R81 (b): the values or bytes declared run past the payload. -/
  | cut
  /-- R81 (c): the register range passes 2^32 - 1. -/
  | range
  /-- R81 (d): a read-multiple count above `BUFFER_SIZE`. -/
  | readCount
  /-- R82: a subframe of the other direction's class. -/
  | direction
deriving DecidableEq, Repr

/-- The result of decoding at the head of a byte list: `OK(rec, next)` with the bytes after it, `UNKNOWN` with the
tag, or `MALFORMED` with the reason (42_dispatcher.md R143). -/
inductive Decoded (α : Type) where
  | ok (a : α) (rest : List Byte)
  | unknown (tag : U32)
  | malformed (why : Malformed)
deriving DecidableEq, Repr

/-- Go on with what was decoded and the bytes after it. -/
def Decoded.andThen {α β : Type} (d : Decoded α) (f : α → List Byte → Decoded β) : Decoded β :=
  match d with
  | .ok a rest => f a rest
  | .unknown tag => .unknown tag
  | .malformed why => .malformed why

/-- `field()` of 42_dispatcher.md R143. -/
def takeVar (bs : List Byte) : Decoded U32 :=
  match varDecode bs with
  | some (v, n) => .ok v (bs.drop n)
  | none => .malformed .varuint

/-- `take(k)` of 42_dispatcher.md R143. -/
def takeBytes (k : Nat) (bs : List Byte) : Decoded (List Byte) :=
  if bs.length < k then .malformed .cut else .ok (bs.take k) (bs.drop k)

/-- `count` values of `size` bytes each, little-endian, from the head of a list that is long enough. -/
def chunkValues (size : Nat) : Nat → List Byte → List Nat
  | 0, _ => []
  | n + 1, bs => leNat (bs.take size) :: chunkValues size n (bs.drop size)

/-- A body `reg` (30_encoding.md R80, read-single). -/
def regBody (mk : U32 → Instr) (bs : List Byte) : Decoded Instr :=
  (takeVar bs).andThen fun reg rest => .ok (mk reg) rest

/-- A body `reg, value` with a value of `size` bytes (30_encoding.md R80, write-single and reply-single). -/
def regValueBody (size : Nat) (mk : U32 → Nat → Instr) (bs : List Byte) : Decoded Instr :=
  (takeVar bs).andThen fun reg rest =>
  (takeBytes size rest).andThen fun v rest => .ok (mk reg (leNat v)) rest

/-- A body `start, count, values` (30_encoding.md R80, write-multiple and reply-multiple), with the checks of
42_dispatcher.md R143 in its order: first the range, then the length. With `count = 0` the range check cannot
fail, so `start + count <= 2^32` says the same as R81 (c). -/
def multiBody (size : Nat) (mk : U32 → List Nat → Instr) (bs : List Byte) : Decoded Instr :=
  (takeVar bs).andThen fun start rest =>
  (takeVar rest).andThen fun count rest =>
    if 2 ^ 32 < start.toNat + count.toNat then .malformed .range
    else if rest.length < count.toNat * size then .malformed .cut
    else .ok (mk start (chunkValues size count.toNat rest)) (rest.drop (count.toNat * size))

/-- A body `start, count` (30_encoding.md R80, read-multiple), with the checks of 42_dispatcher.md R143. -/
def readMultiBody (bufferSize : Nat) (mk : U32 → U32 → Instr) (bs : List Byte) : Decoded Instr :=
  (takeVar bs).andThen fun start rest =>
  (takeVar rest).andThen fun count rest =>
    if 2 ^ 32 < start.toNat + count.toNat then .malformed .range
    else if bufferSize < count.toNat then .malformed .readCount
    else .ok (mk start count) rest

/-- A body `reg, code` (30_encoding.md R80, write-error and read-error). -/
def errorBody (mk : U32 → U32 → Instr) (bs : List Byte) : Decoded Instr :=
  (takeVar bs).andThen fun reg rest =>
  (takeVar rest).andThen fun code rest => .ok (mk reg code) rest

/-- A body `channel, count, bytes` (30_encoding.md R80, the two tunnel forms). -/
def tunnelBody (mk : U32 → List Byte → Instr) (bs : List Byte) : Decoded Instr :=
  (takeVar bs).andThen fun channel rest =>
  (takeVar rest).andThen fun count rest =>
  (takeBytes count.toNat rest).andThen fun bytes rest => .ok (mk channel bytes) rest

/-- The body after a tag, for every tag of 30_encoding.md R77; every other tag is unknown (R82). -/
def decodeBody (bufferSize : Nat) (tag : U32) (bs : List Byte) : Decoded Instr :=
  match tag.toNat with
  | 0x10 => regValueBody 1 (fun reg n => .wrI8 reg (BitVec.ofNat 8 n)) bs
  | 0x11 => regValueBody 2 (fun reg n => .wrI16 reg (BitVec.ofNat 16 n)) bs
  | 0x12 => regValueBody 4 (fun reg n => .wrI32 reg (BitVec.ofNat 32 n)) bs
  | 0x13 => regValueBody 4 (fun reg n => .wrF32 reg (BitVec.ofNat 32 n)) bs
  | 0x14 => multiBody 1 (fun start ns => .wrmI8 start (ns.map (BitVec.ofNat 8))) bs
  | 0x15 => multiBody 2 (fun start ns => .wrmI16 start (ns.map (BitVec.ofNat 16))) bs
  | 0x16 => multiBody 4 (fun start ns => .wrmI32 start (ns.map (BitVec.ofNat 32))) bs
  | 0x17 => multiBody 4 (fun start ns => .wrmF32 start (ns.map (BitVec.ofNat 32))) bs
  | 0x18 => regBody .rdI8 bs
  | 0x19 => regBody .rdI16 bs
  | 0x1A => regBody .rdI32 bs
  | 0x1B => regBody .rdF32 bs
  | 0x1C => readMultiBody bufferSize .rdmI8 bs
  | 0x1D => readMultiBody bufferSize .rdmI16 bs
  | 0x1E => readMultiBody bufferSize .rdmI32 bs
  | 0x1F => readMultiBody bufferSize .rdmF32 bs
  | 0x20 => regValueBody 1 (fun reg n => .rplI8 reg (BitVec.ofNat 8 n)) bs
  | 0x21 => regValueBody 2 (fun reg n => .rplI16 reg (BitVec.ofNat 16 n)) bs
  | 0x22 => regValueBody 4 (fun reg n => .rplI32 reg (BitVec.ofNat 32 n)) bs
  | 0x23 => regValueBody 4 (fun reg n => .rplF32 reg (BitVec.ofNat 32 n)) bs
  | 0x24 => multiBody 1 (fun start ns => .rplmI8 start (ns.map (BitVec.ofNat 8))) bs
  | 0x25 => multiBody 2 (fun start ns => .rplmI16 start (ns.map (BitVec.ofNat 16))) bs
  | 0x26 => multiBody 4 (fun start ns => .rplmI32 start (ns.map (BitVec.ofNat 32))) bs
  | 0x27 => multiBody 4 (fun start ns => .rplmF32 start (ns.map (BitVec.ofNat 32))) bs
  | 0x28 => errorBody .werr bs
  | 0x29 => errorBody .rerr bs
  | 0x40 => tunnelBody .tunC2S bs
  | 0x41 => tunnelBody .tunS2C bs
  | _ => .unknown tag

/-- One subframe from the head of `bs`, whatever its direction (30_encoding.md R83, R84): the tag is identified by
its decoded value. -/
def decode (bufferSize : Nat) (bs : List Byte) : Decoded Instr :=
  (takeVar bs).andThen fun tag rest => decodeBody bufferSize tag rest

/-- Request class (30_encoding.md R77): tags 0x10 to 0x1F and 0x40; the others are of the reply class. -/
def Instr.isRequest : Instr → Bool
  | .wrI8 _ _ | .wrI16 _ _ | .wrI32 _ _ | .wrF32 _ _ => true
  | .wrmI8 _ _ | .wrmI16 _ _ | .wrmI32 _ _ | .wrmF32 _ _ => true
  | .rdI8 _ | .rdI16 _ | .rdI32 _ | .rdF32 _ => true
  | .rdmI8 _ _ | .rdmI16 _ _ | .rdmI32 _ _ | .rdmF32 _ _ => true
  | .rplI8 _ _ | .rplI16 _ _ | .rplI32 _ _ | .rplF32 _ _ => false
  | .rplmI8 _ _ | .rplmI16 _ _ | .rplmI32 _ _ | .rplmF32 _ _ => false
  | .werr _ _ | .rerr _ _ => false
  | .tunC2S _ _ => true
  | .tunS2C _ _ => false

/-- The class a role takes: a server requests, a client replies (30_encoding.md R82). -/
def Role.takes : Role → Instr → Bool
  | .server, i => i.isRequest
  | .client, i => !i.isRequest

/-- `DecodeSubframe` at a server (42_dispatcher.md R143) and `DecodeReplySub` at a client (45_client.md R231):
a subframe of the other direction's class is malformed, whatever its body (30_encoding.md R82). -/
def decodeAt (role : Role) (bufferSize : Nat) (bs : List Byte) : Decoded Instr :=
  match decode bufferSize bs with
  | .ok i rest => if role.takes i then .ok i rest else .malformed .direction
  | .unknown tag => .unknown tag
  | .malformed why => .malformed why

/-! Encoding. -/

/-- The tag of each instruction (30_encoding.md R77). -/
def Instr.tag : Instr → Nat
  | .wrI8 _ _ => 0x10
  | .wrI16 _ _ => 0x11
  | .wrI32 _ _ => 0x12
  | .wrF32 _ _ => 0x13
  | .wrmI8 _ _ => 0x14
  | .wrmI16 _ _ => 0x15
  | .wrmI32 _ _ => 0x16
  | .wrmF32 _ _ => 0x17
  | .rdI8 _ => 0x18
  | .rdI16 _ => 0x19
  | .rdI32 _ => 0x1A
  | .rdF32 _ => 0x1B
  | .rdmI8 _ _ => 0x1C
  | .rdmI16 _ _ => 0x1D
  | .rdmI32 _ _ => 0x1E
  | .rdmF32 _ _ => 0x1F
  | .rplI8 _ _ => 0x20
  | .rplI16 _ _ => 0x21
  | .rplI32 _ _ => 0x22
  | .rplF32 _ _ => 0x23
  | .rplmI8 _ _ => 0x24
  | .rplmI16 _ _ => 0x25
  | .rplmI32 _ _ => 0x26
  | .rplmF32 _ _ => 0x27
  | .werr _ _ => 0x28
  | .rerr _ _ => 0x29
  | .tunC2S _ _ => 0x40
  | .tunS2C _ _ => 0x41

/-- `reg, value` with a value of `size` bytes (30_encoding.md R80). -/
def encodeRegValue (size : Nat) (reg : U32) (v : Nat) : List Byte :=
  varEncode reg ++ leBytes size v

/-- `start, count, values` with values of `size` bytes (30_encoding.md R80). -/
def encodeMulti (size : Nat) (start : U32) (vs : List Nat) : List Byte :=
  varEncode start ++ varEncode (BitVec.ofNat 32 vs.length) ++ vs.flatMap (leBytes size)

/-- Two varuints: `start, count` or `reg, code` (30_encoding.md R80). -/
def encodePair (a b : U32) : List Byte :=
  varEncode a ++ varEncode b

/-- `channel, count, bytes` (30_encoding.md R80). -/
def encodeTunnel (channel : U32) (bytes : List Byte) : List Byte :=
  varEncode channel ++ varEncode (BitVec.ofNat 32 bytes.length) ++ bytes

/-- The body of each instruction, in wire order after the tag (30_encoding.md R80). -/
def Instr.body : Instr → List Byte
  | .wrI8 reg v => encodeRegValue 1 reg v.toNat
  | .wrI16 reg v => encodeRegValue 2 reg v.toNat
  | .wrI32 reg v => encodeRegValue 4 reg v.toNat
  | .wrF32 reg v => encodeRegValue 4 reg v.toNat
  | .wrmI8 start vs => encodeMulti 1 start (vs.map BitVec.toNat)
  | .wrmI16 start vs => encodeMulti 2 start (vs.map BitVec.toNat)
  | .wrmI32 start vs => encodeMulti 4 start (vs.map BitVec.toNat)
  | .wrmF32 start vs => encodeMulti 4 start (vs.map BitVec.toNat)
  | .rdI8 reg => varEncode reg
  | .rdI16 reg => varEncode reg
  | .rdI32 reg => varEncode reg
  | .rdF32 reg => varEncode reg
  | .rdmI8 start count => encodePair start count
  | .rdmI16 start count => encodePair start count
  | .rdmI32 start count => encodePair start count
  | .rdmF32 start count => encodePair start count
  | .rplI8 reg v => encodeRegValue 1 reg v.toNat
  | .rplI16 reg v => encodeRegValue 2 reg v.toNat
  | .rplI32 reg v => encodeRegValue 4 reg v.toNat
  | .rplF32 reg v => encodeRegValue 4 reg v.toNat
  | .rplmI8 start vs => encodeMulti 1 start (vs.map BitVec.toNat)
  | .rplmI16 start vs => encodeMulti 2 start (vs.map BitVec.toNat)
  | .rplmI32 start vs => encodeMulti 4 start (vs.map BitVec.toNat)
  | .rplmF32 start vs => encodeMulti 4 start (vs.map BitVec.toNat)
  | .werr reg code => encodePair reg code
  | .rerr reg code => encodePair reg code
  | .tunC2S channel bytes => encodeTunnel channel bytes
  | .tunS2C channel bytes => encodeTunnel channel bytes

/-- The bytes of a subframe: its tag and its body, every varuint minimal (30_encoding.md R80, 45_client.md R222). -/
def encode (i : Instr) : List Byte :=
  varEncode (BitVec.ofNat 32 i.tag) ++ i.body

/-! The opcode table's words. -/

/-- The bytes of an instruction whose table bits are `w`: `nbits` of them, first byte lowest, then zeros up to the
longest payload, `size` bytes (log entry 10). -/
def tableBytes (size nbits w : Nat) : List Byte :=
  (leBytes ((nbits + 7) / 8) w ++ List.replicate size 0#8).take size

/-- The instruction the decoder reads from an instruction whose table bits are `w` (log entry 10). -/
def decodeTableWord (nbits w : Nat) : Option Instr :=
  match decode Config.default.bufferSize (tableBytes Config.default.bufferSize nbits w) with
  | .ok i _ => some i
  | .unknown _ => none
  | .malformed _ => none

end Sys2Proof
end

