-- ==== Sys2Proof/Machine/State.lean ====
section
/-! DEFINITION. The state of the block as plain data (10_state.md), the reasons a step could stop, and the state after
reset (70_reset_and_hazards.md R280). -/

namespace Sys2Proof.Machine

/-- Faults. There is none: "no byte sequence on RX, no Server answer and no port event can stop, hang or reset the
block" (60_exceptions.md R258). Nobody raises one; safe. -/
inductive Fault where
deriving DecidableEq, Repr

/-- Refusals. -/
inductive Refusal where
  /-- Raised by an arm of `exec` whose instruction has no meaning yet; no arm raises it. Safe. -/
  | notModelled (mnemonic : String)
deriving DecidableEq, Repr

/-- `rx_phase` (10_state.md R27). -/
inductive RxPhase where
  | h0
  | h1
  | src
  | dst
  | len
  | pay
  | crc0
  | crc1
deriving DecidableEq, Repr

/-- `srv_state` (10_state.md R30). -/
inductive SrvState where
  | idle
  | accum
  | validate
  | dispatch
  | compose
  | send
deriving DecidableEq, Repr

/-- `cli_state` (10_state.md R36). -/
inductive CliState where
  | idle
  | send
  | await
deriving DecidableEq, Repr

/-- `scan_outcome` (10_state.md R32); also the outcome of `ParseReply` (45_client.md R230). -/
inductive ScanOutcome where
  | ok
  | unknown
  | malformed
deriving DecidableEq, Repr

/-- The six error kinds (60_exceptions.md R250), in the order of their counters (10_state.md R23). -/
inductive ErrorKind where
  | wrongId
  | checksumMismatch
  | receiveOverrun
  | unknownSubframe
  | missingSubframe
  | malformedSubframe
deriving DecidableEq, Repr

/-- The statistics counters (10_state.md R23), each of `STAT_WIDTH` = 32 bits. -/
structure Stats where
  wrongId : U32
  checksumMismatch : U32
  receiveOverrun : U32
  unknownSubframe : U32
  missingSubframe : U32
  malformedSubframe : U32
deriving DecidableEq, Repr

/-- One tunnel channel slot (10_state.md R33). -/
structure Slot where
  /-- `slot_bound[s]`. -/
  bound : Bool
  /-- `slot_chan[s]`. -/
  chan : U32
  /-- `in_fifo[s]`, oldest byte first. -/
  inFifo : List Byte
  /-- `out_fifo[s]`, oldest byte first. -/
  outFifo : List Byte
deriving DecidableEq, Repr

/-- The answer of `MemRead` (00_scope.md R10): `OK(bits)` or `ERR(code)`. -/
inductive ReadAnswer where
  | ok (v : Value)
  | err (code : U32)
deriving DecidableEq, Repr

/-- Result records (42_dispatcher.md R151). -/
inductive ResultRec where
  /-- `WRES`: the registers whose write failed, with their codes, in call order. -/
  | wres (errors : List (U32 × U32))
  /-- `RRES`: one entry per register read. -/
  | rres (multiple : Bool) (rep : Rep) (entries : List (U32 × ReadAnswer))
  /-- `TRES`: the channel and the slot found or bound for it. -/
  | tres (channel : U32) (slot : Nat)
deriving DecidableEq, Repr

/-- The outstanding request record `cli_req` (10_state.md R37, 45_client.md R225). -/
structure CliReq where
  dest : Byte
  expectReply : Bool
  expectReads : List (U32 × Rep)
  expectTunnel : Option U32
deriving DecidableEq, Repr

/-- `cli_result.status` (45_client.md R236). -/
inductive CliStatus where
  | ok
  | missing
  | malformed
  | sent
  | txFailed
  | timeout
deriving DecidableEq, Repr

/-- An entry of `cli_result.reads` (45_client.md R236): `(reg, rep, OK(bits))`, the value carrying its
representation, or `(reg, ERR(code))`. -/
inductive ReadEntry where
  | val (reg : U32) (v : Value)
  | err (reg : U32) (code : U32)
deriving DecidableEq, Repr

/-- `cli_result` (45_client.md R236). -/
structure CliResult where
  status : CliStatus
  reads : List ReadEntry
  writeErrors : List (U32 × U32)
  tunnel : Option (U32 × List Byte)
deriving DecidableEq, Repr

/-- What the reply subframes taken so far contribute (45_client.md R230, R233): the MODEL's own form of the local
variable `mentions` of `ParseReply` (log entry 5). -/
structure Mentions where
  reads : List ReadEntry
  writeErrors : List (U32 × U32)
  tunnel : List (U32 × List Byte)
deriving DecidableEq, Repr

/-- No mention. -/
def Mentions.empty : Mentions :=
  { reads := [], writeErrors := [], tunnel := [] }

/-- A client request (45_client.md R220). `subs` holds request records; a record of the reply class is none of
them, so a request that holds one is no `Request` event (log entry 20). -/
structure Request where
  dest : Byte
  rr : Bool
  subs : List Instr
deriving DecidableEq, Repr

/-- The status a `Request` returns (45_client.md R220, R221). -/
inductive RequestStatus where
  | ok
  | busy
  | badRange
  | tunnelMix
  | tooLong
deriving DecidableEq, Repr

/-- The port events of 10_state.md R38, and the reset input of 70_reset_and_hazards.md R281. -/
inductive PortEvent where
  | rxByte (b : Byte)
  | rxClose
  | txDone (ok : Bool)
  | appAlloc (ch : U32)
  | appRead (ch : U32) (n : Nat)
  | appWrite (ch : U32) (bytes : List Byte)
  | configWrite (v : Byte)
  | configRead
  | statsRead (k : Nat)
  /-- A read of control register `i` (10_state.md R26). -/
  | controlRead (i : Nat)
  /-- A write of control register `i` (10_state.md R26). -/
  | controlWrite (i : Nat) (v : U32)
  | request (req : Request)
  | result
  | timeout
  /-- The instance is built anew, with what the configuration store then holds (log entry 14). -/
  | reset (stored : Option Byte)
deriving DecidableEq, Repr

/-- An event another agent has offered. `before` places it among the engine's internal actions: standing first, with
the mark `some st`, it comes before the internal action of `st` (`VALIDATE`, `DISPATCH` or `COMPOSE`); without that mark
it comes after it (20_memory.md R58, 70_reset_and_hazards.md R286; DESIGN CHOICE, log entry 4). -/
structure Offer where
  event : PortEvent
  before : Option SrvState
deriving DecidableEq, Repr

/-- What the block gives out on its ports (10_state.md R38; log entry 6). -/
inductive PortOutput where
  /-- A `MemWrite` call and the code it returned. -/
  | memWrite (reg : U32) (v : Value) (code : U32)
  /-- A `MemRead` call and its answer. -/
  | memRead (reg : U32) (rep : Rep) (answer : ReadAnswer)
  /-- A frame offered on TX. -/
  | tx (frame : List Byte)
  /-- A frame offered on TX and withdrawn by reset (70_reset_and_hazards.md R281). -/
  | txWithdrawn
  /-- `AppAlloc`: `OK` is true, `NO_SLOT` false. -/
  | appAlloc (ok : Bool)
  /-- `AppRead`: `none` is `NOT_BOUND`. -/
  | appRead (bytes : Option (List Byte))
  /-- `AppWrite`: the number of bytes taken; `none` is `NOT_BOUND`. -/
  | appWrite (taken : Option Nat)
  | configRead (v : Byte)
  /-- `StatsRead`: `none` is the refusal of an index above 5. -/
  | statsRead (v : Option U32)
  /-- A control register read: `none` is the refusal of an index above 0x06. -/
  | controlRead (v : Option U32)
  /-- A control register write: false is the refusal of an index above 0x06. -/
  | controlWrite (accepted : Bool)
  | requestStatus (status : RequestStatus)
  | result (r : Option CliResult)
deriving DecidableEq, Repr

/-- The state of one instance. -/
structure State where
  /-- The parameters of 00_scope.md R6; no step changes them, but for `STORED_ID` at a reset input (log entry 1). -/
  cfg : Config
  /-- `NODE_ID` (10_state.md R21). -/
  nodeId : Byte
  /-- The six counters (10_state.md R23). -/
  stats : Stats
  /-- `rx_phase` (10_state.md R27). -/
  rxPhase : RxPhase
  /-- `rx_bytes` (10_state.md R28). -/
  rxBytes : List Byte
  /-- `rx_src` (10_state.md R28). -/
  rxSrc : Byte
  /-- `rx_dst` (10_state.md R28). -/
  rxDst : Byte
  /-- `rx_len` (10_state.md R28). -/
  rxLen : U32
  /-- `rx_len_n` (10_state.md R28). -/
  rxLenN : Nat
  /-- `rx_pay` (10_state.md R28). -/
  rxPay : List Byte
  /-- `rx_crc` (10_state.md R28). -/
  rxCrc : U16
  /-- `srv_state` (10_state.md R30). -/
  srvState : SrvState
  /-- `acc_src_id` (10_state.md R31). -/
  accSrcId : BitVec 7
  /-- `acc_rr` (10_state.md R31). -/
  accRr : Bool
  /-- `acc_dst` (10_state.md R31). -/
  accDst : Byte
  /-- `acc_payload` (10_state.md R31). -/
  accPayload : List Byte
  /-- `scan_outcome` (10_state.md R32). -/
  scanOutcome : ScanOutcome
  /-- `scan_list` (10_state.md R32). -/
  scanList : List Instr
  /-- `results` (10_state.md R32). -/
  results : List ResultRec
  /-- `reply_needed` (10_state.md R32). -/
  replyNeeded : Bool
  /-- `reply_payload` (10_state.md R32). -/
  replyPayload : List Byte
  /-- `tx_frame` (10_state.md R32). -/
  txFrame : Option (List Byte)
  /-- The tunnel channel slots (10_state.md R33), slot 0 first. -/
  slots : List Slot
  /-- `cli_state` (10_state.md R36). -/
  cliState : CliState
  /-- `cli_req` (10_state.md R37). -/
  cliReq : Option CliReq
  /-- `cli_result` (10_state.md R37). -/
  cliResult : Option CliResult
  /-- The MODEL's own: `mentions` of 45_client.md R230, empty between steps (log entry 5). -/
  mentions : Mentions
  /-- The MODEL's own: events offered and not yet taken (log entry 4). -/
  inputs : List Offer
  /-- The MODEL's own: answers the Server collaborator has ready, taken one per call (log entry 3). -/
  answers : List ServerAnswer
  /-- The MODEL's own: the counter that the free answers of the SERVER oracle are drawn with (log entry 3). -/
  serverCalls : Nat
  /-- The MODEL's own: what the block gave out, oldest first (log entry 6). -/
  outputs : List PortOutput
deriving DecidableEq, Repr

/-- All counters 0 (10_state.md R23). -/
def Stats.zero : Stats :=
  { wrongId := 0#32, checksumMismatch := 0#32, receiveOverrun := 0#32, unknownSubframe := 0#32,
    missingSubframe := 0#32, malformedSubframe := 0#32 }

/-- A slot after reset (10_state.md R33); its channel is unspecified there (log entry 2). -/
def Slot.free : Slot :=
  { bound := false, chan := 0#32, inFifo := [], outFifo := [] }

/-- The slots after reset: `MAX_TUNNEL_STREAMS` free ones at a server (10_state.md R33); a client holds none
(44_tunnel.md, introduction). -/
def resetSlots (c : Config) : List Slot :=
  match c.role with
  | .server => List.replicate c.maxTunnelStreams Slot.free
  | .client => []

/-- The instance with parameters `c` right after reset (70_reset_and_hazards.md R280). The registers R280 calls
unspecified hold 0 here: `rxSrc`, `rxDst`, `rxLen`, `rxLenN`, `rxCrc`, `accSrcId`, `accRr`, `accDst` and the slots'
channels. DESIGN CHOICE (log entry 2). -/
def State.resetWith (c : Config) : State :=
  { cfg := c
    nodeId := ((c.storedId.getD c.defaultId).setWidth 7).setWidth 8
    stats := Stats.zero
    rxPhase := .h0, rxBytes := [], rxSrc := 0#8, rxDst := 0#8, rxLen := 0#32, rxLenN := 0, rxPay := [], rxCrc := 0#16
    srvState := .idle
    accSrcId := 0#7, accRr := false, accDst := 0#8, accPayload := []
    scanOutcome := .ok, scanList := [], results := [], replyNeeded := false, replyPayload := [], txFrame := none
    slots := resetSlots c
    cliState := .idle, cliReq := none, cliResult := none
    mentions := Mentions.empty, inputs := [], answers := [], serverCalls := 0, outputs := [] }

/-- The machine right after reset, with the parameter values of log entry 1. -/
def State.reset : State :=
  State.resetWith Config.default

end Sys2Proof.Machine
end

