-- ==== Sys2Proof/Machine/Flags.lean ====
section
/-! DEFINITION. The flag-like computations. The block has no condition codes (10_state.md R20); what it computes in their
place is the response-requested bit of a source byte, the saturating counters, and whether a reply is sent. -/

namespace Sys2Proof.Machine

open Sys2Proof

/-- The source byte: bit 7 is the response-requested flag, bits [6:0] the id (30_encoding.md R72, R74). -/
def sourceByte (id : BitVec 7) (rr : Bool) : Byte :=
  BitVec.ofBool rr ++ id

/-- Bits [6:0] of a source byte (30_encoding.md R74). -/
def sourceId (b : Byte) : BitVec 7 :=
  b.setWidth 7

/-- Bit 7 of a source byte: the response-requested flag (30_encoding.md R74). -/
def responseRequested (b : Byte) : Bool :=
  b.msb

/-- `zext_8` of a 7-bit id (00_scope.md R9). -/
def idByte (id : BitVec 7) : Byte :=
  id.setWidth 8

/-- What a write of byte `v` leaves in `NODE_ID`: `zext_8(v[6:0])` (10_state.md R21, R22). -/
def nodeIdOf (v : Byte) : Byte :=
  idByte (v.setWidth 7)

/-- `min(c + 1, 2^32 - 1)`: a counter saturates and never wraps (10_state.md R24). -/
def satInc (c : U32) : U32 :=
  BitVec.ofNat 32 (min (c.toNat + 1) (2 ^ 32 - 1))

/-- The counter of an error kind (10_state.md R23, 60_exceptions.md R250). -/
def Stats.get (st : Stats) : ErrorKind → U32
  | .wrongId => st.wrongId
  | .checksumMismatch => st.checksumMismatch
  | .receiveOverrun => st.receiveOverrun
  | .unknownSubframe => st.unknownSubframe
  | .missingSubframe => st.missingSubframe
  | .malformedSubframe => st.malformedSubframe

/-- `Stat(k)++` (10_state.md R24). -/
def Stats.bump (st : Stats) : ErrorKind → Stats
  | .wrongId => { st with wrongId := satInc st.wrongId }
  | .checksumMismatch => { st with checksumMismatch := satInc st.checksumMismatch }
  | .receiveOverrun => { st with receiveOverrun := satInc st.receiveOverrun }
  | .unknownSubframe => { st with unknownSubframe := satInc st.unknownSubframe }
  | .missingSubframe => { st with missingSubframe := satInc st.missingSubframe }
  | .malformedSubframe => { st with malformedSubframe := satInc st.malformedSubframe }

/-- The error kind of stats index `k` (10_state.md R23); other indices have no meaning (R25). -/
def statIndex : Nat → Option ErrorKind
  | 0 => some .wrongId
  | 1 => some .checksumMismatch
  | 2 => some .receiveOverrun
  | 3 => some .unknownSubframe
  | 4 => some .missingSubframe
  | 5 => some .malformedSubframe
  | _ => none

/-- An RD or RDM subframe. -/
def isRead : Instr → Bool
  | .rdI8 _ | .rdI16 _ | .rdI32 _ | .rdF32 _ => true
  | .rdmI8 _ _ | .rdmI16 _ _ | .rdmI32 _ _ | .rdmF32 _ _ => true
  | .wrI8 _ _ | .wrI16 _ _ | .wrI32 _ _ | .wrF32 _ _ => false
  | .wrmI8 _ _ | .wrmI16 _ _ | .wrmI32 _ _ | .wrmF32 _ _ => false
  | .rplI8 _ _ | .rplI16 _ _ | .rplI32 _ _ | .rplF32 _ _ => false
  | .rplmI8 _ _ | .rplmI16 _ _ | .rplmI32 _ _ | .rplmF32 _ _ => false
  | .werr _ _ | .rerr _ _ => false
  | .tunC2S _ _ | .tunS2C _ _ => false

/-- The channel a TUNC2S subframe polls; `none` for every other subframe. -/
def pollChannel : Instr → Option U32
  | .tunC2S ch _ => some ch
  | .wrI8 _ _ | .wrI16 _ _ | .wrI32 _ _ | .wrF32 _ _ => none
  | .wrmI8 _ _ | .wrmI16 _ _ | .wrmI32 _ _ | .wrmF32 _ _ => none
  | .rdI8 _ | .rdI16 _ | .rdI32 _ | .rdF32 _ => none
  | .rdmI8 _ _ | .rdmI16 _ _ | .rdmI32 _ _ | .rdmF32 _ _ => none
  | .rplI8 _ _ | .rplI16 _ _ | .rplI32 _ _ | .rplF32 _ _ => none
  | .rplmI8 _ _ | .rplmI16 _ _ | .rplmI32 _ _ | .rplmF32 _ _ => none
  | .werr _ _ | .rerr _ _ => none
  | .tunS2C _ _ => none

/-- Whether a frame with these subframes gets a reply: the condition of 42_dispatcher.md R153 at a server and of
45_client.md R224 at a client. -/
def needsReply (rr : Bool) (subs : List Instr) : Bool :=
  rr || subs.any isRead || subs.any fun i => (pollChannel i).isSome

end Sys2Proof.Machine
end

