-- ==== Sys2Proof/Machine/FrameCodec.lean ====
section
/-! DEFINITION. The checksum, the frame encoder and the functional form of the frame decoder (41_frame_codec.md R110 to
R113, R128). -/

namespace Sys2Proof.Machine

open Sys2Proof

/-- One round of the inner loop of `CRC16` (41_frame_codec.md R110). -/
def crcBit (poly c : U16) : U16 :=
  if c.msb then (c <<< 1) ^^^ poly else c <<< 1

/-- One byte of the outer loop of `CRC16` (41_frame_codec.md R110); `reflect8` is the bit reversal. -/
def crcByte (p : CrcParams) (c : U16) (b : Byte) : U16 :=
  let b := if p.refin then b.reverse else b
  Nat.repeat (crcBit p.poly) 8 (c ^^^ (b.setWidth 16 <<< 8))

/-- `CRC16(data)` (41_frame_codec.md R110); `reflect16` is the bit reversal. -/
def crc16 (p : CrcParams) (data : List Byte) : U16 :=
  let c := data.foldl (crcByte p) p.init
  (if p.refout then c.reverse else c) ^^^ p.xorout

/-- `FrameCRC(f)` (41_frame_codec.md R112): the checksum position counts as two zero bytes. -/
def frameCrc (p : CrcParams) (f : List Byte) : U16 :=
  crc16 p (f ++ [0#8, 0#8])

/-- `le16` of a checksum: low byte first (20_memory.md R52). -/
def crcBytes (c : U16) : List Byte :=
  [c.setWidth 8, (c >>> 8).setWidth 8]

/-- A frame up to the last payload byte (30_encoding.md R72). -/
def frameHead (src : BitVec 7) (rr : Bool) (dst : Byte) (payload : List Byte) : List Byte :=
  [0x54#8, 0xAB#8, sourceByte src rr, dst] ++ varEncode (BitVec.ofNat 32 payload.length) ++ payload

/-- `EncodeFrame(src_id, rr, dst, payload)` (41_frame_codec.md R113). -/
def encodeFrame (p : CrcParams) (src : BitVec 7) (rr : Bool) (dst : Byte) (payload : List Byte) : List Byte :=
  let f := frameHead src rr dst payload
  f ++ crcBytes (frameCrc p f)

/-- The verdict of `TryDecode` (41_frame_codec.md R128). -/
inductive FrameVerdict where
  | incomplete
  | error (k : ErrorKind)
  | frame (src : BitVec 7) (rr : Bool) (dst : Byte) (payload : List Byte)
deriving DecidableEq, Repr

/-- `TryDecode(s)` (41_frame_codec.md R128), for a byte list whose first two bytes are the header. -/
def tryDecode (c : Config) (s : List Byte) : FrameVerdict :=
  match s with
  | _ :: _ :: src :: dst :: after =>
    match varDecode after with
    | none => if after.length < 5 then .incomplete else .error .receiveOverrun
    | some (len, used) =>
      let n := len.toNat
      if c.bufferSize < n then .error .receiveOverrun
      else if s.length < 6 + used + n then .incomplete
      else
        let sum := (s.drop (4 + used + n)).take 2
        if crcBytes (frameCrc c.crc (s.take (4 + used + n))) = sum then
          .frame (sourceId src) (responseRequested src) dst ((after.drop used).take n)
        else .error .checksumMismatch
  | _ => .incomplete

end Sys2Proof.Machine
end

