-- ==== Sys2Proof/Machine/Operands.lean ====
section
/-! DEFINITION. The operand forms: register ranges of the multiple forms, and values as fields of reply subframes. -/

namespace Sys2Proof.Machine

open Sys2Proof

/-- The first `n` registers from `start`, ascending (43_register_rpc.md R171, R173). -/
def regRange (start : U32) : Nat → List U32
  | 0 => []
  | n + 1 => start :: regRange (start + 1#32) n

/-- Pair the values of a multiple form with their registers, `start` first (30_encoding.md R80). -/
def withRegs (start : U32) : List Value → List (U32 × Value)
  | [] => []
  | v :: vs => (start, v) :: withRegs (start + 1#32) vs

/-- The reply-single subframe of a value (30_encoding.md R77, R80). -/
def rplOf (reg : U32) : Value → Instr
  | .i8 b => .rplI8 reg b
  | .i16 b => .rplI16 reg b
  | .i32 b => .rplI32 reg b
  | .f32 b => .rplF32 reg b

/-- The reply-multiple subframe of values of one representation (30_encoding.md R77, R80). -/
def rplmOf (rep : Rep) (start : U32) (vs : List Value) : Instr :=
  match rep with
  | .i8 => .rplmI8 start (vs.map fun v => v.bits.setWidth 8)
  | .i16 => .rplmI16 start (vs.map fun v => v.bits.setWidth 16)
  | .i32 => .rplmI32 start (vs.map Value.bits)
  | .f32 => .rplmF32 start (vs.map Value.bits)

/-- The (register, representation) pairs a request subframe asks to be read, in order (45_client.md R225). -/
def readsAsked : Instr → List (U32 × Rep)
  | .rdI8 reg => [(reg, .i8)]
  | .rdI16 reg => [(reg, .i16)]
  | .rdI32 reg => [(reg, .i32)]
  | .rdF32 reg => [(reg, .f32)]
  | .rdmI8 start count => (regRange start count.toNat).map fun r => (r, .i8)
  | .rdmI16 start count => (regRange start count.toNat).map fun r => (r, .i16)
  | .rdmI32 start count => (regRange start count.toNat).map fun r => (r, .i32)
  | .rdmF32 start count => (regRange start count.toNat).map fun r => (r, .f32)
  | .wrI8 _ _ | .wrI16 _ _ | .wrI32 _ _ | .wrF32 _ _ => []
  | .wrmI8 _ _ | .wrmI16 _ _ | .wrmI32 _ _ | .wrmF32 _ _ => []
  | .rplI8 _ _ | .rplI16 _ _ | .rplI32 _ _ | .rplF32 _ _ => []
  | .rplmI8 _ _ | .rplmI16 _ _ | .rplmI32 _ _ | .rplmF32 _ _ => []
  | .werr _ _ | .rerr _ _ => []
  | .tunC2S _ _ | .tunS2C _ _ => []

/-- `start + count - 1 > 2^32 - 1` with `count >= 1` (30_encoding.md R81 (c)). -/
def rangePassesTop (start : U32) (count : Nat) : Bool :=
  decide (1 ≤ count) && decide (2 ^ 32 - 1 < start.toNat + count - 1)

/-- The `BAD_RANGE` condition of a request record (45_client.md R221). -/
def badRange (bufferSize : Nat) : Instr → Bool
  | .wrmI8 start vs => rangePassesTop start vs.length
  | .wrmI16 start vs => rangePassesTop start vs.length
  | .wrmI32 start vs => rangePassesTop start vs.length
  | .wrmF32 start vs => rangePassesTop start vs.length
  | .rdmI8 start count => rangePassesTop start count.toNat || decide (bufferSize < count.toNat)
  | .rdmI16 start count => rangePassesTop start count.toNat || decide (bufferSize < count.toNat)
  | .rdmI32 start count => rangePassesTop start count.toNat || decide (bufferSize < count.toNat)
  | .rdmF32 start count => rangePassesTop start count.toNat || decide (bufferSize < count.toNat)
  | .wrI8 _ _ | .wrI16 _ _ | .wrI32 _ _ | .wrF32 _ _ => false
  | .rdI8 _ | .rdI16 _ | .rdI32 _ | .rdF32 _ => false
  | .rplI8 _ _ | .rplI16 _ _ | .rplI32 _ _ | .rplF32 _ _ => false
  | .rplmI8 _ _ | .rplmI16 _ _ | .rplmI32 _ _ | .rplmF32 _ _ => false
  | .werr _ _ | .rerr _ _ => false
  | .tunC2S _ _ | .tunS2C _ _ => false

/-- The greatest `k` in `1 .. n` with `p k`, or 0 where there is none: the `max` of 42_dispatcher.md R154 and
44_tunnel.md R213. -/
def greatest (p : Nat → Bool) : Nat → Nat
  | 0 => 0
  | n + 1 => if p (n + 1) then n + 1 else greatest p n

end Sys2Proof.Machine
end

