-- ==== Sys2Proof/Machine/Ops.lean ====
section
/-! DEFINITION. The named operations over the state: counters, taking an error (60_exceptions.md R256), the Server port
(00_scope.md R10), and the tunnel slots (44_tunnel.md R210). -/

namespace Sys2Proof.Machine

open Sys2Proof

/-- Give `o` out on a port (log entry 6). -/
def State.emit (s : State) (o : PortOutput) : State :=
  { s with outputs := s.outputs ++ [o] }

/-- `Stat(k)++` (10_state.md R24). -/
def State.count (s : State) (k : ErrorKind) : State :=
  { s with stats := s.stats.bump k }

/-- The discard of 41_frame_codec.md R126. -/
def State.discardFrame (s : State) : State :=
  { s with
    rxBytes := [], rxPay := [], rxPhase := .h0
    srvState := match s.cfg.role with
      | .server => .idle
      | .client => s.srvState }

/-- A client result with no entry: `{status, ...empty}` of 45_client.md R226, R232, R237. -/
def CliResult.bare (status : CliStatus) : CliResult :=
  { status := status, reads := [], writeErrors := [], tunnel := none }

/-- Completion of a request (45_client.md R236). -/
def State.resolve (s : State) (r : CliResult) : State :=
  { s with cliResult := some r, cliReq := none, cliState := .idle, mentions := Mentions.empty }

/-- TAKING AN ERROR, in one step: "the counter is incremented, the receiver buffers are cleared and the engine goes
to `IDLE` (server) or stays in `C_AWAIT` (client, frame-level errors) or goes to `C_IDLE` (client, reply-content
errors)" (60_exceptions.md R250, R256). Nothing else is recorded (R251), no state is saved, and there is no return
from it (R257). An unknown subframe only counts: the rest of its frame goes on (42_dispatcher.md R148, 45_client.md
R232), and a missing one only counts here: the coverage check resolves the request (45_client.md R234). -/
def State.takeError (s : State) (k : ErrorKind) : State :=
  match k with
  | .wrongId => (s.count k).discardFrame
  | .checksumMismatch => (s.count k).discardFrame
  | .receiveOverrun => (s.count k).discardFrame
  | .unknownSubframe => s.count k
  | .missingSubframe => s.count k
  | .malformedSubframe =>
    match s.cfg.role with
    | .server => { (s.count k).discardFrame with scanOutcome := .malformed, scanList := [] }
    | .client => ((s.count k).discardFrame).resolve (CliResult.bare .malformed)

/-! The Server port. -/

/-- The Server's answer to a call made now: the next one it has ready, else a free value (log entry 3). -/
def State.nextAnswer (s : State) (c : ServerCall) : ServerAnswer :=
  match s.answers with
  | a :: _ => a
  | [] => Config.serverAnswer s.serverCalls c

/-- The state after a call was made and answered. -/
def State.afterCall (s : State) (o : PortOutput) : State :=
  { s with answers := s.answers.tail, serverCalls := s.serverCalls + 1, outputs := s.outputs ++ [o] }

/-- `MemWrite(reg, rep, v)` (00_scope.md R10): the code returned, and the state after the call. -/
def State.memWrite (s : State) (reg : U32) (v : Value) : U32 × State :=
  let code := (s.nextAnswer (.write reg v)).code
  (code, s.afterCall (.memWrite reg v code))

/-- What an answer says to a read with representation `rep`: `OK(bits)` with the width of `rep`, or `ERR(code)` with
`code` not 0 (00_scope.md R10). -/
def readAnswerOf (rep : Rep) (a : ServerAnswer) : ReadAnswer :=
  if a.code = 0#32 then .ok (Value.ofBits rep a.bits) else .err a.code

/-- `MemRead(reg, rep)` (00_scope.md R10): the answer, and the state after the call. -/
def State.memRead (s : State) (reg : U32) (rep : Rep) : ReadAnswer × State :=
  let x := readAnswerOf rep (s.nextAnswer (.read reg rep))
  (x, s.afterCall (.memRead reg rep x))

/-- One `MemWrite` per register, in list order; the registers whose code is not 0, with their codes, in call order
(43_register_rpc.md R170, R171). A failed register does not stop the others. -/
def writeAll : List (U32 × Value) → State → List (U32 × U32) × State
  | [], s => ([], s)
  | (reg, v) :: rest, s =>
    let w := s.memWrite reg v
    let r := writeAll rest w.2
    (if w.1 = 0#32 then r.1 else (reg, w.1) :: r.1, r.2)

/-- One `MemRead` per register, in list order, with the answers (43_register_rpc.md R172, R173). -/
def readAll (rep : Rep) : List U32 → State → List (U32 × ReadAnswer) × State
  | [], s => ([], s)
  | reg :: rest, s =>
    let x := s.memRead reg rep
    let r := readAll rep rest x.2
    ((reg, x.1) :: r.1, r.2)

/-- Append a result record (42_dispatcher.md R150). -/
def State.addResult (s : State) (r : ResultRec) : State :=
  { s with results := s.results ++ [r] }

/-- Append what a reply subframe contributes (45_client.md R230, R233). -/
def State.addMentions (s : State) (m : Mentions) : State :=
  { s with mentions :=
      { reads := s.mentions.reads ++ m.reads
        writeErrors := s.mentions.writeErrors ++ m.writeErrors
        tunnel := s.mentions.tunnel ++ m.tunnel } }

/-! Tunnel slots (44_tunnel.md). -/

/-- The slot is bound to channel `ch`. -/
def Slot.holds (ch : U32) (sl : Slot) : Bool :=
  sl.bound && decide (sl.chan = ch)

/-- The slot bound to channel `ch`. -/
def boundSlot (slots : List Slot) (ch : U32) : Option Nat :=
  slots.findIdx? (Slot.holds ch)

/-- `FindSlot(ch)` (44_tunnel.md R210): the slot bound to `ch`, else the lowest free one, else none. -/
def findSlot (slots : List Slot) (ch : U32) : Option Nat :=
  match boundSlot slots ch with
  | some i => some i
  | none => slots.findIdx? fun sl => !sl.bound

/-- Bind slot `i` to `ch` where it is free (44_tunnel.md R210). -/
def bindAt (slots : List Slot) (i : Nat) (ch : U32) : List Slot :=
  slots.modify i fun sl => if sl.bound then sl else { sl with bound := true, chan := ch }

/-- `Bind(ch)` (44_tunnel.md R210): the slot found, and the slots with it bound. -/
def bindSlot (slots : List Slot) (ch : U32) : Option Nat × List Slot :=
  match findSlot slots ch with
  | some i => (some i, bindAt slots i ch)
  | none => (none, slots)

/-- Append as many of `bytes` as a FIFO of the given capacity has room for (44_tunnel.md R214, R217). -/
def fifoPush (capacity : Nat) (fifo bytes : List Byte) : List Byte :=
  fifo ++ bytes.take (capacity - fifo.length)

/-- The FIFO of outbound bytes of slot `i`. -/
def outFifoAt (slots : List Slot) (i : Nat) : List Byte :=
  match slots[i]? with
  | some sl => sl.outFifo
  | none => []

/-- The FIFO of inbound bytes of slot `i`. -/
def inFifoAt (slots : List Slot) (i : Nat) : List Byte :=
  match slots[i]? with
  | some sl => sl.inFifo
  | none => []

end Sys2Proof.Machine
end

