-- ==== Sys2Proof/Machine/Client.lean ====
section
/-! DEFINITION. The client engine (45_client.md): issuing a request, completing it, and the coverage check of a reply. -/

namespace Sys2Proof.Machine

open Sys2Proof

/-- The payload of a request (45_client.md R222). -/
def requestPayload (subs : List Instr) : List Byte :=
  subs.flatMap encode

/-- The status of a request, its conditions checked in the order of 45_client.md R221. -/
def requestStatus (s : State) (req : Request) : RequestStatus :=
  if s.cliState ≠ .idle then .busy
  else if req.subs.any (badRange s.cfg.bufferSize) then .badRange
  else if (req.subs.any fun i => (pollChannel i).isSome) && decide (1 < req.subs.length) then .tunnelMix
  else if s.cfg.bufferSize < (requestPayload req.subs).length then .tooLong
  else .ok

/-- The request record (45_client.md R224, R225). -/
def requestRecord (req : Request) : CliReq :=
  { dest := req.dest
    expectReply := needsReply req.rr req.subs
    expectReads := req.subs.flatMap readsAsked
    expectTunnel := req.subs.findSome? pollChannel }

/-- The request frame (45_client.md R223). -/
def requestFrame (s : State) (req : Request) : List Byte :=
  encodeFrame s.cfg.crc (sourceId s.nodeId) req.rr req.dest (requestPayload req.subs)

/-- `Request(req)` (45_client.md R220 to R226): refused with a status and no change, or accepted and sent. -/
def requestStep (req : Request) (s : State) : State :=
  match requestStatus s req with
  | .ok =>
    let t := { s with cliReq := some (requestRecord req), cliResult := none, cliState := .send }
    (t.emit (.requestStatus .ok)).emit (.tx (requestFrame s req))
  | .busy => s.emit (.requestStatus .busy)
  | .badRange => s.emit (.requestStatus .badRange)
  | .tunnelMix => s.emit (.requestStatus .tunnelMix)
  | .tooLong => s.emit (.requestStatus .tooLong)

/-- `TxDone(ok)` in `C_SEND` (45_client.md R226). -/
def clientTxDone (ok : Bool) (s : State) : State :=
  if ok then
    match s.cliReq with
    | some req => if req.expectReply then { s with cliState := .await } else s.resolve (CliResult.bare .sent)
    | none => s.resolve (CliResult.bare .sent)
  else s.resolve (CliResult.bare .txFailed)

/-- `Timeout()` (45_client.md R237). -/
def timeoutStep (s : State) : State :=
  match s.cliState with
  | .await => (s.discardFrame).resolve (CliResult.bare .timeout)
  | .idle => s
  | .send => s

/-- The correlation check fails (45_client.md R228). -/
def notFromNode (s : State) (req : CliReq) : Bool :=
  decide (s.rxDst ≠ s.nodeId) || decide (idByte (sourceId s.rxSrc) ≠ req.dest)

/-- Remove the first element that satisfies `p`, where there is one. -/
def removeFirst (p : U32 × Rep → Bool) (l : List (U32 × Rep)) : Option (List (U32 × Rep)) :=
  if l.any p then some (l.eraseP p) else none

/-- Match one read entry against what is still expected (45_client.md R234). -/
def matchEntry (unmatched : List (U32 × Rep)) : ReadEntry → Option (List (U32 × Rep))
  | .val reg v => removeFirst (fun p => decide (p = (reg, v.rep))) unmatched
  | .err reg _ => removeFirst (fun p => decide (p.1 = reg)) unmatched

/-- The loop of the coverage check (45_client.md R234): `extra`, and what stays unmatched. -/
def matchReads : List ReadEntry → List (U32 × Rep) → Bool × List (U32 × Rep)
  | [], unmatched => (false, unmatched)
  | e :: rest, unmatched =>
    match matchEntry unmatched e with
    | some left => matchReads rest left
    | none => (true, (matchReads rest unmatched).2)

/-- `tunnel_ok` (45_client.md R234). -/
def tunnelOk : Option U32 → List (U32 × List Byte) → Bool
  | none, [] => true
  | none, _ :: _ => false
  | some _, [] => false
  | some ch, [(c, _)] => decide (c = ch)
  | some _, _ :: _ :: _ => false

/-- The verdict of the coverage check (45_client.md R234). -/
def coverage (req : CliReq) (m : Mentions) : CliStatus :=
  let r := matchReads m.reads req.expectReads
  if r.1 || (!m.tunnel.isEmpty && !tunnelOk req.expectTunnel m.tunnel) then .malformed
  else if !r.2.isEmpty || (req.expectTunnel.isSome && m.tunnel.isEmpty) then .missing
  else .ok

/-- `{status, entries as assembled}` (45_client.md R234 to R236). -/
def resultOf (status : CliStatus) (m : Mentions) : CliResult :=
  { status := status, reads := m.reads, writeErrors := m.writeErrors, tunnel := m.tunnel.head? }

/-- The coverage check and the completion (45_client.md R234, R236). -/
def conclude (req : CliReq) (s : State) : State :=
  if coverage req s.mentions = .malformed then s.takeError .malformedSubframe
  else if coverage req s.mentions = .missing then
    (s.takeError .missingSubframe).resolve (resultOf .missing s.mentions)
  else s.resolve (resultOf .ok s.mentions)

end Sys2Proof.Machine
end

