-- ==== Sys2Proof/Machine/Compose.lean ====
section
/-! DEFINITION. Composing and sending a server's reply (42_dispatcher.md R153 to R159, 44_tunnel.md R213). -/

namespace Sys2Proof.Machine

open Sys2Proof

/-- The condition on `k` in `Split` (42_dispatcher.md R154): `k` values from register `reg` fit a reply alone. -/
def fitsAlone (bufferSize : Nat) (rep : Rep) (reg : U32) (k : Nat) : Bool :=
  decide (1 + vlen reg + vlen (BitVec.ofNat 32 k) + k * rep.size ≤ bufferSize)

/-- `Split(rep, run)` (42_dispatcher.md R154), with at most `fuel` subframes; the run's length is enough. -/
def splitRun (bufferSize : Nat) (rep : Rep) : Nat → List (U32 × Value) → List Instr
  | 0, _ => []
  | _ + 1, [] => []
  | fuel + 1, (reg, v) :: more =>
    let run := (reg, v) :: more
    match greatest (fitsAlone bufferSize rep reg) run.length with
    | 0 => []
    | k + 1 =>
      rplmOf rep reg ((run.take (k + 1)).map Prod.snd) :: splitRun bufferSize rep fuel (run.drop (k + 1))

/-- The reply subframes of a read-multiple (42_dispatcher.md R154): runs of successful registers, and a read-error for
each failed one; `run` is the run being collected. -/
def composeReads (bufferSize : Nat) (rep : Rep) : List (U32 × Value) → List (U32 × ReadAnswer) → List Instr
  | run, [] => splitRun bufferSize rep run.length run
  | run, (reg, .ok v) :: rest => composeReads bufferSize rep (run ++ [(reg, v)]) rest
  | run, (reg, .err code) :: rest =>
    splitRun bufferSize rep run.length run ++ .rerr reg code :: composeReads bufferSize rep [] rest

/-- The reply subframe of a read-single's entry (42_dispatcher.md R154). -/
def composeRead : U32 × ReadAnswer → Instr
  | (reg, .ok v) => rplOf reg v
  | (reg, .err code) => .rerr reg code

/-- `fit` of `S2C(ch, s)` (44_tunnel.md R213): how many bytes a reply holding this one subframe can carry. -/
def tunnelFit (bufferSize : Nat) (ch : U32) : Nat :=
  greatest (fun n => decide (1 + vlen ch + vlen (BitVec.ofNat 32 n) + n ≤ bufferSize)) bufferSize

/-- Remove the first `n` bytes of the `out_fifo` of slot `i`. -/
def popOut (slots : List Slot) (i n : Nat) : List Slot :=
  slots.modify i fun sl => { sl with outFifo := sl.outFifo.drop n }

/-- `S2C(ch, s)` (44_tunnel.md R213): the subframe, and the slots without the bytes it took. -/
def serverToClient (bufferSize : Nat) (ch : U32) (i : Nat) (slots : List Slot) : Instr × List Slot :=
  let n := min (outFifoAt slots i).length (tunnelFit bufferSize ch)
  (.tunS2C ch ((outFifoAt slots i).take n), popOut slots i n)

/-- The reply subframes of one result record, and the slots after it (42_dispatcher.md R154). -/
def composeOne (bufferSize : Nat) (slots : List Slot) : ResultRec → List Instr × List Slot
  | .wres errors => (errors.map fun e => .werr e.1 e.2, slots)
  | .rres false _ entries => (entries.map composeRead, slots)
  | .rres true rep entries => (composeReads bufferSize rep [] entries, slots)
  | .tres ch i =>
    let r := serverToClient bufferSize ch i slots
    ([r.1], r.2)

/-- `Compose(results)` (42_dispatcher.md R154), in order. -/
def composeAll (bufferSize : Nat) : List ResultRec → List Slot → List Instr × List Slot
  | [], slots => ([], slots)
  | r :: rest, slots =>
    let a := composeOne bufferSize slots r
    let b := composeAll bufferSize rest a.2
    (a.1 ++ b.1, b.2)

/-- `reply_payload` (42_dispatcher.md R155): the longest prefix of whole subframes that fits the room. -/
def packReply : Nat → List Instr → List Byte
  | _, [] => []
  | room, i :: rest =>
    if (encode i).length ≤ room then encode i ++ packReply (room - (encode i).length) rest else []

/-- Composition and the reply frame (42_dispatcher.md R154 to R156); the frame is offered on TX on entering `SEND`
(R158; log entry 6). -/
def sendReply (s : State) : State :=
  let c := composeAll s.cfg.bufferSize s.results s.slots
  let payload := packReply s.cfg.bufferSize c.1
  let frame := encodeFrame s.cfg.crc (sourceId s.nodeId) false (idByte s.accSrcId) payload
  ({ s with replyNeeded := true, slots := c.2, replyPayload := payload, txFrame := some frame,
            srvState := .send }).emit (.tx frame)

/-- No reply (42_dispatcher.md R157). -/
def dropReply (s : State) : State :=
  { s with replyNeeded := false, results := [], srvState := .idle }

/-- The internal step of `COMPOSE` (42_dispatcher.md R140, R153). -/
def composeStep (s : State) : State :=
  if needsReply s.accRr s.scanList then sendReply s else dropReply s

/-- `TxDone(ok)` at a server (42_dispatcher.md R158, R159): failure is handled as success. -/
def serverTxDone (s : State) : State :=
  { s with txFrame := none, srvState := .idle }

end Sys2Proof.Machine
end

