-- ==== Sys2Proof/Machine/Writes.lean ====
section
/-! DEFINITION. The write subframes, 0x10 to 0x17 (43_register_rpc.md R170, R171, R176 to R183). -/

namespace Sys2Proof.Machine

open Sys2Proof

/-- A request-class subframe is executed at a server; at a client it is malformed (30_encoding.md R82, 45_client.md
R231, R232; log entry 11). -/
def asRequest (run : State → State) (s : State) : Host.Outcome State Fault Refusal :=
  match s.cfg.role with
  | .server => .next (run s)
  | .client => .next (s.takeError .malformedSubframe)

/-- `WriteSingle` (43_register_rpc.md R170). -/
def writeSingle (reg : U32) (v : Value) (s : State) : State :=
  let w := s.memWrite reg v
  w.2.addResult (.wres (if w.1 = 0#32 then [] else [(reg, w.1)]))

/-- `WriteMultiple` (43_register_rpc.md R171). -/
def writeMultiple (start : U32) (vs : List Value) (s : State) : State :=
  let r := writeAll (withRegs start vs) s
  r.2.addResult (.wres r.1)

/-- `WR.I8 reg, v` (43_register_rpc.md R176). -/
def execWrI8 (reg : U32) (v : BitVec 8) (s : State) : Host.Outcome State Fault Refusal :=
  asRequest (writeSingle reg (.i8 v)) s

/-- `WR.I16 reg, v` (43_register_rpc.md R177). -/
def execWrI16 (reg : U32) (v : BitVec 16) (s : State) : Host.Outcome State Fault Refusal :=
  asRequest (writeSingle reg (.i16 v)) s

/-- `WR.I32 reg, v` (43_register_rpc.md R178). -/
def execWrI32 (reg : U32) (v : BitVec 32) (s : State) : Host.Outcome State Fault Refusal :=
  asRequest (writeSingle reg (.i32 v)) s

/-- `WR.F32 reg, v` (43_register_rpc.md R179). -/
def execWrF32 (reg : U32) (v : BitVec 32) (s : State) : Host.Outcome State Fault Refusal :=
  asRequest (writeSingle reg (.f32 v)) s

/-- `WRM.I8 start, [v0, ...]` (43_register_rpc.md R180). -/
def execWrmI8 (start : U32) (vs : List (BitVec 8)) (s : State) : Host.Outcome State Fault Refusal :=
  asRequest (writeMultiple start (vs.map .i8)) s

/-- `WRM.I16 start, [v0, ...]` (43_register_rpc.md R181). -/
def execWrmI16 (start : U32) (vs : List (BitVec 16)) (s : State) : Host.Outcome State Fault Refusal :=
  asRequest (writeMultiple start (vs.map .i16)) s

/-- `WRM.I32 start, [v0, ...]` (43_register_rpc.md R182). -/
def execWrmI32 (start : U32) (vs : List (BitVec 32)) (s : State) : Host.Outcome State Fault Refusal :=
  asRequest (writeMultiple start (vs.map .i32)) s

/-- `WRM.F32 start, [v0, ...]` (43_register_rpc.md R183). -/
def execWrmF32 (start : U32) (vs : List (BitVec 32)) (s : State) : Host.Outcome State Fault Refusal :=
  asRequest (writeMultiple start (vs.map .f32)) s

end Sys2Proof.Machine
end

