-- ==== Sys2Proof/Machine/Reads.lean ====
section
/-! DEFINITION. The read subframes, 0x18 to 0x1F (43_register_rpc.md R172, R173, R184 to R191). -/

namespace Sys2Proof.Machine

open Sys2Proof

/-- `ReadSingle` (43_register_rpc.md R172). -/
def readSingle (rep : Rep) (reg : U32) (s : State) : State :=
  let x := s.memRead reg rep
  x.2.addResult (.rres false rep [(reg, x.1)])

/-- `ReadMultiple` (43_register_rpc.md R173). -/
def readMultiple (rep : Rep) (start count : U32) (s : State) : State :=
  let r := readAll rep (regRange start count.toNat) s
  r.2.addResult (.rres true rep r.1)

/-- `RD.I8 reg` (43_register_rpc.md R184). -/
def execRdI8 (reg : U32) (s : State) : Host.Outcome State Fault Refusal :=
  asRequest (readSingle .i8 reg) s

/-- `RD.I16 reg` (43_register_rpc.md R185). -/
def execRdI16 (reg : U32) (s : State) : Host.Outcome State Fault Refusal :=
  asRequest (readSingle .i16 reg) s

/-- `RD.I32 reg` (43_register_rpc.md R186). -/
def execRdI32 (reg : U32) (s : State) : Host.Outcome State Fault Refusal :=
  asRequest (readSingle .i32 reg) s

/-- `RD.F32 reg` (43_register_rpc.md R187). -/
def execRdF32 (reg : U32) (s : State) : Host.Outcome State Fault Refusal :=
  asRequest (readSingle .f32 reg) s

/-- `RDM.I8 start, count` (43_register_rpc.md R188). -/
def execRdmI8 (start count : U32) (s : State) : Host.Outcome State Fault Refusal :=
  asRequest (readMultiple .i8 start count) s

/-- `RDM.I16 start, count` (43_register_rpc.md R189). -/
def execRdmI16 (start count : U32) (s : State) : Host.Outcome State Fault Refusal :=
  asRequest (readMultiple .i16 start count) s

/-- `RDM.I32 start, count` (43_register_rpc.md R190). -/
def execRdmI32 (start count : U32) (s : State) : Host.Outcome State Fault Refusal :=
  asRequest (readMultiple .i32 start count) s

/-- `RDM.F32 start, count` (43_register_rpc.md R191). -/
def execRdmF32 (start count : U32) (s : State) : Host.Outcome State Fault Refusal :=
  asRequest (readMultiple .f32 start count) s

end Sys2Proof.Machine
end

