-- ==== Sys2Proof/Machine/Replies.lean ====
section
/-! DEFINITION. The reply and error subframes, 0x20 to 0x29 (43_register_rpc.md R175, R192 to R201): entries of a client's
result; malformed at a server. -/

namespace Sys2Proof.Machine

open Sys2Proof

/-- A reply-class subframe contributes to a client's result; at a server it is malformed (43_register_rpc.md R175,
30_encoding.md R82; log entry 11). -/
def asReply (m : Mentions) (s : State) : Host.Outcome State Fault Refusal :=
  match s.cfg.role with
  | .server => .next (s.takeError .malformedSubframe)
  | .client => .next (s.addMentions m)

/-- The read entries `(reg, rep, OK(v))` (45_client.md R233). -/
def readsOf (entries : List (U32 × Value)) : Mentions :=
  { reads := entries.map fun e => .val e.1 e.2, writeErrors := [], tunnel := [] }

/-- `RPL.I8 reg, v` (43_register_rpc.md R192). -/
def execRplI8 (reg : U32) (v : BitVec 8) (s : State) : Host.Outcome State Fault Refusal :=
  asReply (readsOf [(reg, .i8 v)]) s

/-- `RPL.I16 reg, v` (43_register_rpc.md R193). -/
def execRplI16 (reg : U32) (v : BitVec 16) (s : State) : Host.Outcome State Fault Refusal :=
  asReply (readsOf [(reg, .i16 v)]) s

/-- `RPL.I32 reg, v` (43_register_rpc.md R194). -/
def execRplI32 (reg : U32) (v : BitVec 32) (s : State) : Host.Outcome State Fault Refusal :=
  asReply (readsOf [(reg, .i32 v)]) s

/-- `RPL.F32 reg, v` (43_register_rpc.md R195). -/
def execRplF32 (reg : U32) (v : BitVec 32) (s : State) : Host.Outcome State Fault Refusal :=
  asReply (readsOf [(reg, .f32 v)]) s

/-- `RPLM.I8 start, [v0, ...]` (43_register_rpc.md R196). -/
def execRplmI8 (start : U32) (vs : List (BitVec 8)) (s : State) : Host.Outcome State Fault Refusal :=
  asReply (readsOf (withRegs start (vs.map .i8))) s

/-- `RPLM.I16 start, [v0, ...]` (43_register_rpc.md R197). -/
def execRplmI16 (start : U32) (vs : List (BitVec 16)) (s : State) : Host.Outcome State Fault Refusal :=
  asReply (readsOf (withRegs start (vs.map .i16))) s

/-- `RPLM.I32 start, [v0, ...]` (43_register_rpc.md R198). -/
def execRplmI32 (start : U32) (vs : List (BitVec 32)) (s : State) : Host.Outcome State Fault Refusal :=
  asReply (readsOf (withRegs start (vs.map .i32))) s

/-- `RPLM.F32 start, [v0, ...]` (43_register_rpc.md R199). -/
def execRplmF32 (start : U32) (vs : List (BitVec 32)) (s : State) : Host.Outcome State Fault Refusal :=
  asReply (readsOf (withRegs start (vs.map .f32))) s

/-- `WERR reg, code` (43_register_rpc.md R200); a code of 0 is reported as received. -/
def execWerr (reg code : U32) (s : State) : Host.Outcome State Fault Refusal :=
  asReply { reads := [], writeErrors := [(reg, code)], tunnel := [] } s

/-- `RERR reg, code` (43_register_rpc.md R201); it carries no representation. -/
def execRerr (reg code : U32) (s : State) : Host.Outcome State Fault Refusal :=
  asReply { reads := [.err reg code], writeErrors := [], tunnel := [] } s

end Sys2Proof.Machine
end

