-- ==== Sys2Proof/Machine/Tunnel.lean ====
section
/-! DEFINITION. The tunnel subframes, 0x40 and 0x41 (44_tunnel.md R211, R212, R214). -/

namespace Sys2Proof.Machine

open Sys2Proof

/-- Append to the `in_fifo` of slot `i` what it has room for; the rest is dropped (44_tunnel.md R214). -/
def pushIn (capacity : Nat) (slots : List Slot) (i : Nat) (bytes : List Byte) : List Slot :=
  slots.modify i fun sl => { sl with inFifo := fifoPush capacity sl.inFifo bytes }

/-- `ExecTunC2S` (44_tunnel.md R211) at a server. Where no slot can take the channel the subframe is malformed
(42_dispatcher.md R146); the scan has then already said so. -/
def receiveTunnel (ch : U32) (bytes : List Byte) (s : State) : State :=
  match bindSlot s.slots ch with
  | (some i, slots) => ({ s with slots := pushIn s.cfg.tunnelCapacity slots i bytes }).addResult (.tres ch i)
  | (none, _) => s.takeError .malformedSubframe

/-- `TUNC2S ch, [b0, ...]` (44_tunnel.md R211); malformed at a client (45_client.md R231). -/
def execTunC2S (ch : U32) (bytes : List Byte) (s : State) : Host.Outcome State Fault Refusal :=
  match s.cfg.role with
  | .server => .next (receiveTunnel ch bytes s)
  | .client => .next (s.takeError .malformedSubframe)

/-- `TUNS2C ch, [b0, ...]` (44_tunnel.md R212): tunnel data at a client (45_client.md R235); malformed at a server. -/
def execTunS2C (ch : U32) (bytes : List Byte) (s : State) : Host.Outcome State Fault Refusal :=
  asReply { reads := [], writeErrors := [], tunnel := [(ch, bytes)] } s

end Sys2Proof.Machine
end

