-- ==== Sys2Proof/Machine/Dispatch.lean ====
section
/-! DEFINITION. The meaning of each instruction, one arm per constructor of `Instr`. -/

namespace Sys2Proof.Machine

open Sys2Proof

/-- Execute one decoded subframe: at a server the rule of its tag in `DISPATCH` (42_dispatcher.md R150), at a client
what it contributes to the result (45_client.md R230, R233). -/
def exec (i : Instr) (s : State) : Host.Outcome State Fault Refusal :=
  match i with
  | .wrI8 reg v => Sys2Proof.Machine.execWrI8 reg v s
  | .wrI16 reg v => Sys2Proof.Machine.execWrI16 reg v s
  | .wrI32 reg v => Sys2Proof.Machine.execWrI32 reg v s
  | .wrF32 reg v => Sys2Proof.Machine.execWrF32 reg v s
  | .wrmI8 start vs => Sys2Proof.Machine.execWrmI8 start vs s
  | .wrmI16 start vs => Sys2Proof.Machine.execWrmI16 start vs s
  | .wrmI32 start vs => Sys2Proof.Machine.execWrmI32 start vs s
  | .wrmF32 start vs => Sys2Proof.Machine.execWrmF32 start vs s
  | .rdI8 reg => Sys2Proof.Machine.execRdI8 reg s
  | .rdI16 reg => Sys2Proof.Machine.execRdI16 reg s
  | .rdI32 reg => Sys2Proof.Machine.execRdI32 reg s
  | .rdF32 reg => Sys2Proof.Machine.execRdF32 reg s
  | .rdmI8 start count => Sys2Proof.Machine.execRdmI8 start count s
  | .rdmI16 start count => Sys2Proof.Machine.execRdmI16 start count s
  | .rdmI32 start count => Sys2Proof.Machine.execRdmI32 start count s
  | .rdmF32 start count => Sys2Proof.Machine.execRdmF32 start count s
  | .rplI8 reg v => Sys2Proof.Machine.execRplI8 reg v s
  | .rplI16 reg v => Sys2Proof.Machine.execRplI16 reg v s
  | .rplI32 reg v => Sys2Proof.Machine.execRplI32 reg v s
  | .rplF32 reg v => Sys2Proof.Machine.execRplF32 reg v s
  | .rplmI8 start vs => Sys2Proof.Machine.execRplmI8 start vs s
  | .rplmI16 start vs => Sys2Proof.Machine.execRplmI16 start vs s
  | .rplmI32 start vs => Sys2Proof.Machine.execRplmI32 start vs s
  | .rplmF32 start vs => Sys2Proof.Machine.execRplmF32 start vs s
  | .werr reg code => Sys2Proof.Machine.execWerr reg code s
  | .rerr reg code => Sys2Proof.Machine.execRerr reg code s
  | .tunC2S channel bytes => Sys2Proof.Machine.execTunC2S channel bytes s
  | .tunS2C channel bytes => Sys2Proof.Machine.execTunS2C channel bytes s

end Sys2Proof.Machine
end

