-- ==== Sys2Proof/Machine/Ports.lean ====
section
/-! DEFINITION. The tunnel application's port (44_tunnel.md R215 to R217), the config and stats ports and the control
register space (10_state.md R22, R25, R26), reset as an input (70_reset_and_hazards.md R281), and which event is
accepted when (10_state.md R38). -/

namespace Sys2Proof.Machine

open Sys2Proof

/-- `AppAlloc(ch)` (44_tunnel.md R215). -/
def appAlloc (ch : U32) (s : State) : State :=
  match bindSlot s.slots ch with
  | (some _, slots) => ({ s with slots := slots }).emit (.appAlloc true)
  | (none, _) => s.emit (.appAlloc false)

/-- `AppRead(ch, n)` (44_tunnel.md R216). -/
def appRead (ch : U32) (n : Nat) (s : State) : State :=
  match boundSlot s.slots ch with
  | some i =>
    ({ s with slots := s.slots.modify i fun sl => { sl with inFifo := sl.inFifo.drop n } }).emit
      (.appRead (some ((inFifoAt s.slots i).take n)))
  | none => s.emit (.appRead none)

/-- `AppWrite(ch, bytes)` (44_tunnel.md R217). -/
def appWrite (ch : U32) (bytes : List Byte) (s : State) : State :=
  match boundSlot s.slots ch with
  | some i =>
    ({ s with slots := s.slots.modify i fun sl =>
        { sl with outFifo := fifoPush s.cfg.tunnelCapacity sl.outFifo bytes } }).emit
      (.appWrite (some (min bytes.length (s.cfg.tunnelCapacity - (outFifoAt s.slots i).length))))
  | none => s.emit (.appWrite none)

/-- `ConfigWrite(v)` (10_state.md R22). -/
def configWrite (v : Byte) (s : State) : State :=
  { s with nodeId := nodeIdOf v }

/-- `StatsRead(k)` (10_state.md R25): an index above 5 is refused. -/
def statsRead (k : Nat) (s : State) : State :=
  s.emit (.statsRead ((statIndex k).map s.stats.get))

/-- What control register `i` reads as (10_state.md R26); an index above 0x06 is refused. -/
def controlValue (s : State) : Nat → Option U32
  | 0 => some (s.nodeId.setWidth 32)
  | i + 1 => (statIndex i).map s.stats.get

/-- A write of control register `i` (10_state.md R26): index 0 is `ConfigWrite` of the low byte, a write to a counter is
ignored, an index above 0x06 is refused (log entry 13). -/
def controlWrite (i : Nat) (v : U32) (s : State) : State :=
  match i with
  | 0 => (configWrite (v.setWidth 8) s).emit (.controlWrite true)
  | i + 1 => s.emit (.controlWrite (statIndex i).isSome)

/-- A frame stands offered on TX: a server in `SEND`, a client in `C_SEND` (10_state.md R38). -/
def txPending (s : State) : Bool :=
  match s.cfg.role with
  | .server => decide (s.srvState = .send)
  | .client => decide (s.cliState = .send)

/-- The reset input (70_reset_and_hazards.md R280, R281): the instance is built anew with what the configuration store
holds; a frame offered on TX is withdrawn. What lies outside the block stays (log entry 14). -/
def resetInput (stored : Option Byte) (s : State) : State :=
  { State.resetWith { s.cfg with storedId := stored } with
    inputs := s.inputs, answers := s.answers, serverCalls := s.serverCalls
    outputs := if txPending s then s.outputs ++ [.txWithdrawn] else s.outputs }

/-- The event comes from the receive stream. -/
def PortEvent.isReceive : PortEvent → Bool
  | .rxByte _ => true
  | .rxClose => true
  | .txDone _ => false
  | .appAlloc _ => false
  | .appRead _ _ => false
  | .appWrite _ _ => false
  | .configWrite _ => false
  | .configRead => false
  | .statsRead _ => false
  | .controlRead _ => false
  | .controlWrite _ _ => false
  | .request _ => false
  | .result => false
  | .timeout => false
  | .reset _ => false

/-- The tunnel application's port is open (10_state.md R38). -/
def appOpen (s : State) : Bool :=
  match s.cfg.role with
  | .client => false
  | .server => decide (s.srvState ≠ .dispatch) && decide (s.srvState ≠ .compose)

/-- The caller's ports are open (10_state.md R38). -/
def callerOpen (s : State) : Bool :=
  match s.cfg.role with
  | .client => true
  | .server => false

/-- The receive port is open (10_state.md R38, 41_frame_codec.md R115). -/
def receiveOpen (s : State) : Bool :=
  match s.cfg.role with
  | .client => true
  | .server => decide (s.srvState = .idle) || decide (s.srvState = .accum)

/-- Whether an event can occur now: the column "accepted in" of 10_state.md R38. -/
def accepts (s : State) : PortEvent → Bool
  | .rxByte _ => receiveOpen s
  | .rxClose => true
  | .txDone _ => txPending s
  | .appAlloc _ => appOpen s
  | .appRead _ _ => appOpen s
  | .appWrite _ _ => appOpen s
  | .configWrite _ => true
  | .configRead => true
  | .statsRead _ => true
  | .controlRead _ => true
  | .controlWrite _ _ => true
  | .request req => callerOpen s && req.subs.all Instr.isRequest
  | .result => callerOpen s
  | .timeout => callerOpen s
  | .reset _ => true

/-- The first offered event that can occur now, and the list without it. The receive stream keeps its order: behind a
byte that the host holds no later byte and no close is taken (70_reset_and_hazards.md R283; log entry 4). -/
def takeOffer (s : State) : Bool → List Offer → Option (PortEvent × List Offer)
  | _, [] => none
  | held, o :: rest =>
    if accepts s o.event && !(held && o.event.isReceive) then some (o.event, rest)
    else
      match takeOffer s (held || o.event.isReceive) rest with
      | some (e, left) => some (e, o :: left)
      | none => none

/-- The first offer, where it is marked to come before the internal action of the present state and can occur now. The
rules let an event fall between any two engine steps of a frame (20_memory.md R58, 70_reset_and_hazards.md R286) and
also say that the engine takes an internal step whenever one is enabled (42_dispatcher.md R140); which comes first is
left open, and the mark settles it for each event. DESIGN CHOICE (log entry 4). Between two events each of `VALIDATE`,
`DISPATCH` and `COMPOSE` is met at most once, so the marks reach every order. -/
def takeEarly (s : State) : Option (PortEvent × List Offer) :=
  match s.inputs with
  | [] => none
  | o :: rest =>
    if decide (o.before = some s.srvState) && accepts s o.event then some (o.event, rest) else none

end Sys2Proof.Machine
end

