-- ==== Sys2Proof/Machine/Receiver.lean ====
section
/-! DEFINITION. The receiver, one byte per step (41_frame_codec.md R114 to R122), and the server's checks of a complete
frame (R123 to R127). -/

namespace Sys2Proof.Machine

open Sys2Proof

/-- `srv_state <- v` if `ROLE = SERVER`. -/
def State.serverGoes (s : State) (v : SrvState) : State :=
  { s with srvState := match s.cfg.role with
      | .server => v
      | .client => s.srvState }

/-- `rx_crc[7:0] <- b` (41_frame_codec.md R122). -/
def setCrcLow (c : U16) (b : Byte) : U16 :=
  c.extractLsb' 8 8 ++ b

/-- `rx_crc[15:8] <- b` (41_frame_codec.md R122). -/
def setCrcHigh (c : U16) (b : Byte) : U16 :=
  b ++ c.extractLsb' 0 8

/-- Phase `H0` (41_frame_codec.md R116). -/
def rxHunt (b : Byte) (s : State) : State :=
  if b = 0x54#8 then { s with rxBytes := [0x54#8], rxPhase := .h1 } else s

/-- Phase `H1` (41_frame_codec.md R117). -/
def rxHeader (b : Byte) (s : State) : State :=
  if b = 0xAB#8 then ({ s with rxBytes := [0x54#8, 0xAB#8], rxPhase := .src }).serverGoes .accum
  else if b = 0x54#8 then { s with rxBytes := [0x54#8] }
  else { s with rxBytes := [], rxPhase := .h0 }

/-- Phase `SRC` (41_frame_codec.md R118). -/
def rxSource (b : Byte) (s : State) : State :=
  { s with rxBytes := s.rxBytes ++ [b], rxSrc := b, rxPhase := .dst }

/-- Phase `DST` (41_frame_codec.md R118). -/
def rxDestination (b : Byte) (s : State) : State :=
  { s with rxBytes := s.rxBytes ++ [b], rxDst := b, rxLen := 0#32, rxLenN := 0, rxPhase := .len }

/-- The end of the length field (41_frame_codec.md R120). -/
def rxLengthEnd (s : State) : State :=
  if s.cfg.bufferSize < s.rxLen.toNat then s.takeError .receiveOverrun
  else if s.rxLen = 0#32 then { s with rxPay := [], rxPhase := .crc0 }
  else { s with rxPay := [], rxPhase := .pay }

/-- Phase `LEN` (41_frame_codec.md R119). -/
def rxLength (b : Byte) (s : State) : State :=
  let t := { s with
    rxBytes := s.rxBytes ++ [b]
    rxLen := BitVec.ofNat 32 (s.rxLen.toNat + b.toNat % 128 * 2 ^ (7 * s.rxLenN))
    rxLenN := s.rxLenN + 1 }
  if b.msb then
    if t.rxLenN = 5 then t.takeError .receiveOverrun else t
  else rxLengthEnd t

/-- Phase `PAY` (41_frame_codec.md R121). -/
def rxPayload (b : Byte) (s : State) : State :=
  let t := { s with rxBytes := s.rxBytes ++ [b], rxPay := s.rxPay ++ [b] }
  if t.rxPay.length = s.rxLen.toNat then { t with rxPhase := .crc0 } else t

/-- Phase `CRC0` (41_frame_codec.md R122). -/
def rxCrcLow (b : Byte) (s : State) : State :=
  { s with rxBytes := s.rxBytes ++ [b], rxCrc := setCrcLow s.rxCrc b, rxPhase := .crc1 }

/-- Phase `CRC1` (41_frame_codec.md R122). The frame is now complete: a server goes to `VALIDATE`; a client's checks
(45_client.md R227) follow in the same step, in `Engine`. -/
def rxCrcHigh (b : Byte) (s : State) : State :=
  ({ s with rxBytes := s.rxBytes ++ [b], rxCrc := setCrcHigh s.rxCrc b }).serverGoes .validate

/-- `RxByte(b)` in the current phase (41_frame_codec.md R115 to R122). -/
def rxTake (b : Byte) (s : State) : State :=
  match s.rxPhase with
  | .h0 => rxHunt b s
  | .h1 => rxHeader b s
  | .src => rxSource b s
  | .dst => rxDestination b s
  | .len => rxLength b s
  | .pay => rxPayload b s
  | .crc0 => rxCrcLow b s
  | .crc1 => rxCrcHigh b s

/-- The checksum check on the candidate frame's bytes (41_frame_codec.md R123, 45_client.md R227). -/
def checksumOk (s : State) : Bool :=
  decide (frameCrc s.cfg.crc (s.rxBytes.take (s.rxBytes.length - 2)) = s.rxCrc)

/-- The destination check of a server (41_frame_codec.md R124). -/
def destinationOk (s : State) : Bool :=
  decide (s.rxDst = s.nodeId) || decide (s.cfg.broadcastId = some s.rxDst)

/-- Clear the dispatch working registers on entering `DISPATCH` (42_dispatcher.md R141). -/
def State.clearWork (s : State) : State :=
  { s with scanOutcome := .ok, scanList := [], results := [], replyNeeded := false, replyPayload := [],
           txFrame := none }

/-- Acceptance of a frame by a server (41_frame_codec.md R125), which enters `DISPATCH` (42_dispatcher.md R141). -/
def State.acceptFrame (s : State) : State :=
  ({ s with
     accSrcId := sourceId s.rxSrc, accRr := responseRequested s.rxSrc, accDst := s.rxDst, accPayload := s.rxPay
     rxBytes := [], rxPay := [], rxPhase := .h0
     srvState := .dispatch }).clearWork

/-- The internal step of `VALIDATE` (41_frame_codec.md R123 to R125, 42_dispatcher.md R140): the checksum first. -/
def validateStep (s : State) : State :=
  if checksumOk s then
    if destinationOk s then s.acceptFrame else s.takeError .wrongId
  else s.takeError .checksumMismatch

/-- `RxClose()` (41_frame_codec.md R127, 45_client.md R238): the partial frame is discarded, nothing is counted; a server
past acceptance is unchanged. -/
def rxClose (s : State) : State :=
  match s.cfg.role with
  | .client => s.discardFrame
  | .server =>
    match s.srvState with
    | .idle => s.discardFrame
    | .accum => s.discardFrame
    | .validate => s.discardFrame
    | .dispatch => s
    | .compose => s
    | .send => s

end Sys2Proof.Machine
end

