-- ==== Sys2Proof/Machine/Engine.lean ====
section
/-! DEFINITION. The engine: the scan and the atomic `DISPATCH` step (42_dispatcher.md R143 to R152), the client's step on
a complete frame (45_client.md R227 to R236), the handling of each port event, and one step of the block. -/

namespace Sys2Proof.Machine

open Sys2Proof

/-- Walk a payload without any side effect: `Scan` (42_dispatcher.md R144) and `ParseReply` (45_client.md R230). The
walk stops at an unknown tag with the subframes before it; a malformed subframe empties the list. Every subframe takes
a byte at least, so the payload's length is fuel enough. -/
def walk (role : Role) (bufferSize : Nat) : Nat → List Byte → ScanOutcome × List Instr
  | _, [] => (.ok, [])
  | 0, _ :: _ => (.malformed, [])
  | fuel + 1, b :: bs =>
    match decodeAt role bufferSize (b :: bs) with
    | .unknown _ => (.unknown, [])
    | .malformed _ => (.malformed, [])
    | .ok i rest =>
      match walk role bufferSize fuel rest with
      | (.malformed, _) => (.malformed, [])
      | (.ok, l) => (.ok, i :: l)
      | (.unknown, l) => (.unknown, i :: l)

/-- The walk of a whole payload. -/
def walkPayload (role : Role) (bufferSize : Nat) (p : List Byte) : ScanOutcome × List Instr :=
  walk role bufferSize p.length p

/-- A TUNC2S subframe is together with a second subframe (42_dispatcher.md R145). -/
def tunnelNotAlone (l : List Instr) : Bool :=
  (l.any fun i => (pollChannel i).isSome) && decide (1 < l.length)

/-- A TUNC2S subframe polls a channel that no slot can take (42_dispatcher.md R146). -/
def noSlotFor (slots : List Slot) (l : List Instr) : Bool :=
  l.any fun i =>
    match pollChannel i with
    | some ch => (findSlot slots ch).isNone
    | none => false

/-- The scan and the two checks after it (42_dispatcher.md R144 to R146). -/
def judge (s : State) : ScanOutcome × List Instr :=
  let r := walkPayload .server s.cfg.bufferSize s.accPayload
  if tunnelNotAlone r.2 || noSlotFor s.slots r.2 then (.malformed, []) else r

/-- Execute subframes in order (42_dispatcher.md R150, 45_client.md R230). -/
def execAll : List Instr → State → Host.Outcome State Fault Refusal
  | [], s => .next s
  | i :: rest, s =>
    match exec i s with
    | .next t => execAll rest t
    | .fault f => .fault f
    | .refused r => .refused r

/-- Go on with the next state. -/
def andThen (o : Host.Outcome State Fault Refusal) (f : State → State) : Host.Outcome State Fault Refusal :=
  match o with
  | .next t => .next (f t)
  | .fault x => .fault x
  | .refused r => .refused r

/-- After execution a server goes on to `COMPOSE`; where an error was taken it stays in `IDLE` (42_dispatcher.md R140,
R148, R149). -/
def toCompose (s : State) : State :=
  match s.srvState with
  | .dispatch => { s with srvState := .compose }
  | .idle => s
  | .accum => s
  | .validate => s
  | .compose => s
  | .send => s

/-- The internal, atomic step of `DISPATCH` (42_dispatcher.md R140, R144 to R152). -/
def dispatchStep (s : State) : Host.Outcome State Fault Refusal :=
  let r := judge s
  let t := { s with scanOutcome := r.1, scanList := r.2 }
  match r.1 with
  | .malformed => .next (t.takeError .malformedSubframe)
  | .ok => andThen (execAll r.2 t) toCompose
  | .unknown => andThen (execAll r.2 t) fun u => toCompose (u.takeError .unknownSubframe)

/-- Take a reply at a client (45_client.md R230 to R236): the receiver is cleared (log entry 7), the payload walked, its
mentions collected and checked. -/
def takeReply (req : CliReq) (s : State) : Host.Outcome State Fault Refusal :=
  let r := walkPayload .client s.cfg.bufferSize s.rxPay
  let t := s.discardFrame
  match r.1 with
  | .malformed => .next (t.takeError .malformedSubframe)
  | .ok => andThen (execAll r.2 t) (conclude req)
  | .unknown => andThen (execAll r.2 (t.takeError .unknownSubframe)) (conclude req)

/-- `ClientCheck()` (45_client.md R227 to R229). A client in `C_AWAIT` has a request record; the arm without one is
never reached (log entry 15). -/
def clientCheck (s : State) : Host.Outcome State Fault Refusal :=
  if s.cliState ≠ .await then .next s.discardFrame
  else if !checksumOk s then .next (s.takeError .checksumMismatch)
  else
    match s.cliReq with
    | none => .next (s.takeError .wrongId)
    | some req => if notFromNode s req then .next (s.takeError .wrongId) else takeReply req s

/-- `RxByte(b)` (41_frame_codec.md R115 to R122): at a client the last checksum byte runs the checks in the same
step. -/
def receiveByte (b : Byte) (s : State) : Host.Outcome State Fault Refusal :=
  match s.cfg.role, s.rxPhase with
  | .client, .crc1 => clientCheck (rxTake b s)
  | _, _ => .next (rxTake b s)

/-- `TxDone(ok)` (42_dispatcher.md R158, 45_client.md R226). -/
def txDone (ok : Bool) (s : State) : State :=
  match s.cfg.role with
  | .server => serverTxDone s
  | .client => clientTxDone ok s

/-- The step taken on a port event (10_state.md R38). -/
def handle (e : PortEvent) (s : State) : Host.Outcome State Fault Refusal :=
  match e with
  | .rxByte b => receiveByte b s
  | .rxClose => .next (rxClose s)
  | .txDone ok => .next (txDone ok s)
  | .appAlloc ch => .next (appAlloc ch s)
  | .appRead ch n => .next (appRead ch n s)
  | .appWrite ch bytes => .next (appWrite ch bytes s)
  | .configWrite v => .next (configWrite v s)
  | .configRead => .next (s.emit (.configRead s.nodeId))
  | .statsRead k => .next (statsRead k s)
  | .controlRead i => .next (s.emit (.controlRead (controlValue s i)))
  | .controlWrite i v => .next (controlWrite i v s)
  | .request req => .next (requestStep req s)
  | .result => .next (s.emit (.result s.cliResult))
  | .timeout => .next (timeoutStep s)
  | .reset stored => .next (resetInput stored s)

/-- Take an offered event: it leaves the list of offers and is handled. -/
def takeEvent (s : State) (e : PortEvent) (left : List Offer) : Host.Outcome State Fault Refusal :=
  handle e { s with inputs := left }

/-- The step on the next offered event that can occur; with none, the block waits and holds its state
(60_exceptions.md R264; log entry 17). -/
def eventStep (s : State) : Host.Outcome State Fault Refusal :=
  match takeOffer s false s.inputs with
  | some (e, left) => takeEvent s e left
  | none => .next s

/-- The engine's own step: an internal action where one is enabled (42_dispatcher.md R140), else a port event. -/
def engineStep (s : State) : Host.Outcome State Fault Refusal :=
  match s.cfg.role with
  | .client => eventStep s
  | .server =>
    match s.srvState with
    | .validate => .next (validateStep s)
    | .dispatch => dispatchStep s
    | .compose => .next (composeStep s)
    | .idle => eventStep s
    | .accum => eventStep s
    | .send => eventStep s

/-- One step of the block (00_scope.md R7): an event that comes before an internal action (20_memory.md R58; log entry
4), else the engine's own step. -/
def blockStep (s : State) : Host.Outcome State Fault Refusal :=
  match takeEarly s with
  | some (e, left) => takeEvent s e left
  | none => engineStep s

end Sys2Proof.Machine
end

