-- ==== Sys2Proof/Machine/Fetch.lean ====
section
/-! DEFINITION. Where the next step takes its subframe from: the accepted payload of a server, the frame being completed
at a client (log entry 9). -/

namespace Sys2Proof.Machine

open Sys2Proof

/-- The bytes of the subframe whose table bits are `w`, without the zeros after its end. -/
def subframeBytes (bufferSize nbits w : Nat) : List Byte :=
  let bs := tableBytes bufferSize nbits w
  match decode bufferSize bs with
  | .ok _ rest => bs.take (bs.length - rest.length)
  | .unknown _ => bs
  | .malformed _ => bs

/-- The internal action that is enabled comes before every offered event. -/
def State.holdEvents (s : State) : State :=
  { s with inputs := s.inputs.modify 0 fun o => { o with before := none } }

/-- A server that has just accepted a frame with this payload (41_frame_codec.md R125, 42_dispatcher.md R141). -/
def placeAtServer (payload : List Byte) (s : State) : State :=
  ({ s with accPayload := payload, rxBytes := [], rxPay := [], rxPhase := .h0,
            srvState := .dispatch }).clearWork.holdEvents

/-- The request that a placed reply answers: the outstanding one, or one that expects nothing. -/
def placedRequest (s : State) : CliReq :=
  match s.cliReq with
  | some req => { req with dest := idByte (req.dest.setWidth 7) }
  | none => { dest := 1#8, expectReply := true, expectReads := [], expectTunnel := none }

/-- A client that awaits a reply and has taken all of a frame with this payload but its last checksum byte, which
stands first among the offered events. -/
def placeAtClient (payload : List Byte) (s : State) : State :=
  let req := placedRequest s
  let head := frameHead (req.dest.setWidth 7) false s.nodeId payload
  let crc := frameCrc s.cfg.crc head
  { s with
    rxPhase := .crc1
    rxBytes := head ++ [crc.setWidth 8]
    rxSrc := sourceByte (req.dest.setWidth 7) false
    rxDst := s.nodeId
    rxLen := BitVec.ofNat 32 payload.length
    rxLenN := vlen (BitVec.ofNat 32 payload.length)
    rxPay := payload
    rxCrc := setCrcLow s.rxCrc (crc.setWidth 8)
    cliState := .await
    cliReq := some req
    inputs := { event := .rxByte ((crc >>> 8).setWidth 8), before := none } :: s.inputs }

/-- Store the subframe where the next step takes it from. -/
def placeSubframe (nbits w : Nat) (s : State) : State :=
  match s.cfg.role with
  | .server => placeAtServer (subframeBytes s.cfg.bufferSize nbits w) s
  | .client => placeAtClient (subframeBytes s.cfg.bufferSize nbits w) s

end Sys2Proof.Machine
end

