-- ==== Sys2Proof/Machine/Step.lean ====
section
/-! DEFINITION. One step of the machine, and the placing of a subframe where the next step takes it from. -/

namespace Sys2Proof.Machine

open Sys2Proof

/-- One step: a port event or an internal action (00_scope.md R7, 42_dispatcher.md R140). -/
def step (s : State) : Host.Outcome State Fault Refusal :=
  blockStep s

/-- `s` with the subframe whose table bits are `w` stored where `step` takes its next subframe from (log entry 9). -/
def State.withFetchWord (s : State) (nbits w : Nat) : State :=
  placeSubframe nbits w s

end Sys2Proof.Machine
end

