-- ==== Sys2Proof/Safety.lean ====
section
/-! DEFINITION. What counts as a good state and a safe run, and the closed forms in which claims are stated: the
invariants of the state, the answers a run of Server calls gets, what a reply mentions. Nothing here is used by the
machine. -/

namespace Sys2Proof.Machine

open Sys2Proof

/-! Invariants. -/

/-- Bit 7 of `NODE_ID` is hardwired to 0 (10_state.md R21). -/
def State.nodeIdOk (s : State) : Bool :=
  !s.nodeId.msb

/-- A FIFO pair within its capacity; a free slot's FIFOs are empty (10_state.md R33, 44_tunnel.md R210). -/
def Slot.ok (capacity : Nat) (sl : Slot) : Bool :=
  decide (sl.inFifo.length ≤ capacity) && decide (sl.outFifo.length ≤ capacity) &&
    (sl.bound || (sl.inFifo.isEmpty && sl.outFifo.isEmpty))

/-- The channel ids bound to slots. -/
def boundChannels (slots : List Slot) : List U32 :=
  (slots.filter Slot.bound).map Slot.chan

/-- The tunnel slots: as many as at reset, each within its capacity, at most one bound to a given channel (10_state.md
R33, 20_memory.md R67, 44_tunnel.md R210). -/
def State.slotsOk (s : State) : Bool :=
  decide (s.slots.length = (resetSlots s.cfg).length) && s.slots.all (Slot.ok s.cfg.tunnelCapacity) &&
    decide (boundChannels s.slots).Nodup

/-- The candidate frame registers in each phase (10_state.md R27, R28; 41_frame_codec.md R116 to R122): `rx_bytes` holds
every byte of the candidate frame, `rx_pay` its payload bytes, never more than `BUFFER_SIZE`. -/
def State.receiverOk (s : State) : Bool :=
  match s.rxPhase with
  | .h0 => s.rxBytes.isEmpty && s.rxPay.isEmpty
  | .h1 => decide (s.rxBytes = [0x54#8]) && s.rxPay.isEmpty
  | .src => decide (s.rxBytes = [0x54#8, 0xAB#8]) && s.rxPay.isEmpty
  | .dst => decide (s.rxBytes = [0x54#8, 0xAB#8, s.rxSrc]) && s.rxPay.isEmpty
  | .len =>
    decide (s.rxBytes.take 4 = [0x54#8, 0xAB#8, s.rxSrc, s.rxDst]) && decide (s.rxLenN < 5) &&
      decide (s.rxBytes.length = 4 + s.rxLenN) && s.rxPay.isEmpty
  | .pay =>
    decide (s.rxBytes.take 4 = [0x54#8, 0xAB#8, s.rxSrc, s.rxDst]) && decide (s.rxLenN ≤ 5) &&
      decide (s.rxBytes.length = 4 + s.rxLenN + s.rxPay.length) && decide (s.rxPay.length < s.rxLen.toNat) &&
      decide (s.rxLen.toNat ≤ s.cfg.bufferSize)
  | .crc0 =>
    decide (s.rxBytes.take 4 = [0x54#8, 0xAB#8, s.rxSrc, s.rxDst]) && decide (s.rxLenN ≤ 5) &&
      decide (s.rxBytes.length = 4 + s.rxLenN + s.rxPay.length) && decide (s.rxPay.length = s.rxLen.toNat) &&
      decide (s.rxLen.toNat ≤ s.cfg.bufferSize)
  | .crc1 =>
    decide (s.rxBytes.take 4 = [0x54#8, 0xAB#8, s.rxSrc, s.rxDst]) && decide (s.rxLenN ≤ 5) &&
      decide (s.rxBytes.length = 4 + s.rxLenN + s.rxPay.length + (if s.srvState = .validate then 2 else 1)) &&
      decide (s.rxPay.length = s.rxLen.toNat) && decide (s.rxLen.toNat ≤ s.cfg.bufferSize)

/-- `srv_state` against `rx_phase` (10_state.md R30, 42_dispatcher.md R140); a client has no server engine. -/
def State.phaseOk (s : State) : Bool :=
  match s.cfg.role with
  | .client => decide (s.srvState = .idle)
  | .server =>
    match s.srvState with
    | .idle => decide (s.rxPhase = .h0) || decide (s.rxPhase = .h1)
    | .accum => decide (s.rxPhase ≠ .h0) && decide (s.rxPhase ≠ .h1)
    | .validate => decide (s.rxPhase = .crc1)
    | .dispatch => decide (s.rxPhase = .h0)
    | .compose => decide (s.rxPhase = .h0)
    | .send => decide (s.rxPhase = .h0)

/-- A server holds a frame on TX exactly in `SEND` (42_dispatcher.md R156, R158), and its payload buffers keep to
`BUFFER_SIZE` (10_state.md R31, R32; 20_memory.md R67). -/
def State.buffersOk (s : State) : Bool :=
  (match s.cfg.role with
    | .server => s.txFrame.isSome == decide (s.srvState = .send)
    | .client => s.txFrame.isNone) &&
  decide (s.accPayload.length ≤ s.cfg.bufferSize) && decide (s.replyPayload.length ≤ s.cfg.bufferSize)

/-- An entry of a read result: the value has the representation asked for, an error code is not 0 (00_scope.md R10,
43_register_rpc.md R174). -/
def entryOk (rep : Rep) : U32 × ReadAnswer → Bool
  | (_, .ok v) => decide (v.rep = rep)
  | (_, .err code) => decide (code ≠ 0#32)

/-- A result record (42_dispatcher.md R151): no error code is 0, a single read has one entry, and a tunnel result names
a slot bound to its channel. -/
def recordOk (slots : List Slot) : ResultRec → Bool
  | .wres errors => errors.all fun e => decide (e.2 ≠ 0#32)
  | .rres multiple rep entries => entries.all (entryOk rep) && (multiple || decide (entries.length = 1))
  | .tres ch i =>
    match slots[i]? with
    | some sl => sl.holds ch
    | none => false

/-- The dispatch working registers (42_dispatcher.md R141, R147, R150): no result before execution; in `COMPOSE` one
result per subframe of a scan that was not malformed. -/
def State.workOk (s : State) : Bool :=
  s.results.all (recordOk s.slots) &&
  (match s.srvState with
    | .dispatch => s.results.isEmpty
    | .compose => decide (s.results.length = s.scanList.length) && decide (s.scanOutcome ≠ .malformed)
    | .idle => true
    | .accum => true
    | .validate => true
    | .send => true)

/-- The client engine (10_state.md R36, R37): a request record exactly while a request is outstanding; a server has
none. `mentions` is empty between steps (log entry 5). -/
def State.clientOk (s : State) : Bool :=
  decide (s.mentions = Mentions.empty) &&
  (match s.cfg.role with
    | .server => decide (s.cliState = .idle) && s.cliReq.isNone && s.cliResult.isNone
    | .client => s.cliReq.isNone == decide (s.cliState = .idle))

/-- The invariant of the block: the parameters in their ranges, and all of the above. -/
def State.Inv (s : State) : Prop :=
  s.cfg.wf = true ∧ s.nodeIdOk = true ∧ s.slotsOk = true ∧ s.receiverOk = true ∧ s.phaseOk = true ∧
    s.buffersOk = true ∧ s.workOk = true ∧ s.clientOk = true

/-- A run goes on: the step neither faults nor refuses (60_exceptions.md R258). -/
def goesOn (o : Host.Outcome State Fault Refusal) : Prop :=
  ∃ t, o = .next t

/-- No offered event comes before the internal action that is enabled (log entry 4). -/
def noEarlyEvent (s : State) : Prop :=
  ∀ o rest, s.inputs = o :: rest → o.before ≠ some s.srvState

/-- No reset input is on offer (70_reset_and_hazards.md R281). -/
def noResetOffered (s : State) : Prop :=
  ∀ o ∈ s.inputs, ∀ stored, o.event ≠ .reset stored

/-- No write of `NODE_ID` is on offer: no `ConfigWrite`, no write of a control register, no reset (10_state.md R22,
R26). -/
def noIdWriteOffered (s : State) : Prop :=
  noResetOffered s ∧ (∀ o ∈ s.inputs, ∀ v, o.event ≠ .configWrite v) ∧
    ∀ o ∈ s.inputs, ∀ i v, o.event ≠ .controlWrite i v

/-! Closed forms. -/

/-- The `i`-th register of a multiple form, `start + i` (30_encoding.md R80). -/
def regAt (start : U32) (i : Nat) : U32 :=
  start + BitVec.ofNat 32 i

/-- The answer to call `c`, the `i`-th Server call from `s` on (log entry 3). -/
def answerAt (s : State) (i : Nat) (c : ServerCall) : ServerAnswer :=
  match s.answers[i]? with
  | some a => a
  | none => Config.serverAnswer (s.serverCalls + i) c

/-- The state after Server calls with these outputs were made and answered, with this result record appended; nothing
else differs from `s`. -/
def afterCalls (s : State) (calls : List PortOutput) (r : ResultRec) : State :=
  { s with
    answers := s.answers.drop calls.length
    serverCalls := s.serverCalls + calls.length
    outputs := s.outputs ++ calls
    results := s.results ++ [r] }

/-- The code that the write of the `i`-th value returns. -/
def writeCode (s : State) (start : U32) (i : Nat) (v : Value) : U32 :=
  (answerAt s i (.write (regAt start i) v)).code

/-- The calls of a write-multiple, in order (43_register_rpc.md R171). -/
def writeCalls (s : State) (start : U32) (vs : List Value) : List PortOutput :=
  vs.mapIdx fun i v => .memWrite (regAt start i) v (writeCode s start i v)

/-- The registers of a write-multiple whose code is not 0, in call order (43_register_rpc.md R171). -/
def writeFailures (s : State) (start : U32) (vs : List Value) : List (U32 × U32) :=
  (vs.mapIdx fun i v => (regAt start i, writeCode s start i v)).filter fun e => decide (e.2 ≠ 0#32)

/-- The answer that the read of the `i`-th register gets. -/
def readAt (s : State) (rep : Rep) (start : U32) (i : Nat) : ReadAnswer :=
  readAnswerOf rep (answerAt s i (.read (regAt start i) rep))

/-- The calls of a read-multiple, in order (43_register_rpc.md R173). -/
def readCalls (s : State) (rep : Rep) (start : U32) (n : Nat) : List PortOutput :=
  (List.range n).map fun i => .memRead (regAt start i) rep (readAt s rep start i)

/-- The entries of a read-multiple, in order (43_register_rpc.md R173). -/
def readEntries (s : State) (rep : Rep) (start : U32) (n : Nat) : List (U32 × ReadAnswer) :=
  (List.range n).map fun i => (regAt start i, readAt s rep start i)

/-- The state of a server after a malformed payload: the count, `IDLE`, and nothing else but the cleared receiver and
scan registers (42_dispatcher.md R149, 60_exceptions.md R256). -/
def onlyCountedMalformed (s : State) : State :=
  { s with
    stats := { s.stats with malformedSubframe := satInc s.stats.malformedSubframe }
    rxBytes := [], rxPay := [], rxPhase := .h0, srvState := .idle
    scanOutcome := .malformed, scanList := [] }

/-- The state after a frame was dropped for an error of kind `k` (41_frame_codec.md R126, 60_exceptions.md R256): the
count, the cleared receiver, and at a server `IDLE`; nothing else differs from `s`. -/
def droppedFrame (k : ErrorKind) (s : State) : State :=
  { s with
    stats := s.stats.bump k
    rxBytes := [], rxPay := [], rxPhase := .h0
    srvState := if s.cfg.role = .server then .idle else s.srvState }

/-- The state of a client after a request was resolved with a result (45_client.md R236). -/
def resolvedWith (r : CliResult) (s : State) : State :=
  { s with cliResult := some r, cliReq := none, cliState := .idle, mentions := Mentions.empty }

/-- The state of a client after a malformed reply (45_client.md R232, R236). -/
def resolvedMalformed (s : State) : State :=
  { s with
    stats := { s.stats with malformedSubframe := satInc s.stats.malformedSubframe }
    rxBytes := [], rxPay := [], rxPhase := .h0
    cliResult := some { status := .malformed, reads := [], writeErrors := [], tunnel := none }
    cliReq := none, cliState := .idle, mentions := Mentions.empty }

/-- The classes of tags (30_encoding.md R77). -/
inductive TagClass where
  | request
  | reply
  | unknown
deriving DecidableEq, Repr

/-- The class of a tag, by the ranges of 30_encoding.md R77 and R82. -/
def tagClass (t : Nat) : TagClass :=
  if (0x10 ≤ t ∧ t ≤ 0x1F) ∨ t = 0x40 then .request
  else if (0x20 ≤ t ∧ t ≤ 0x29) ∨ t = 0x41 then .reply
  else .unknown

/-- The registers whose read a reply subframe mentions (42_dispatcher.md R161). -/
def mentionedReads : Instr → List U32
  | .rplI8 reg _ | .rplI16 reg _ | .rplI32 reg _ | .rplF32 reg _ => [reg]
  | .rplmI8 start vs => (List.range vs.length).map (regAt start)
  | .rplmI16 start vs => (List.range vs.length).map (regAt start)
  | .rplmI32 start vs => (List.range vs.length).map (regAt start)
  | .rplmF32 start vs => (List.range vs.length).map (regAt start)
  | .rerr reg _ => [reg]
  | .wrI8 _ _ | .wrI16 _ _ | .wrI32 _ _ | .wrF32 _ _ => []
  | .wrmI8 _ _ | .wrmI16 _ _ | .wrmI32 _ _ | .wrmF32 _ _ => []
  | .rdI8 _ | .rdI16 _ | .rdI32 _ | .rdF32 _ => []
  | .rdmI8 _ _ | .rdmI16 _ _ | .rdmI32 _ _ | .rdmF32 _ _ => []
  | .werr _ _ => []
  | .tunC2S _ _ | .tunS2C _ _ => []

/-- The entry of the client's result that a read answer of the server stands for (45_client.md R233). -/
def entryOf : U32 × ReadAnswer → ReadEntry
  | (reg, .ok v) => .val reg v
  | (reg, .err code) => .err reg code

/-- The read entries that a result record of the server stands for (42_dispatcher.md R151, 45_client.md R233). -/
def readsIn : ResultRec → List ReadEntry
  | .wres _ => []
  | .rres _ _ entries => entries.map entryOf
  | .tres _ _ => []

/-- The write errors in a result record (42_dispatcher.md R151). -/
def errorsIn : ResultRec → List (U32 × U32)
  | .wres errors => errors
  | .rres _ _ _ => []
  | .tres _ _ => []

/-- The registers a request subframe asks to be read, in order (42_dispatcher.md R161). -/
def registersAsked (i : Instr) : List U32 :=
  (readsAsked i).map Prod.fst

/-- The reply subframes composed from the results of a server (42_dispatcher.md R154). -/
def composedReply (s : State) : List Instr :=
  (composeAll s.cfg.bufferSize s.results s.slots).1

/-- The bytes of subframes back to back (30_encoding.md R77). -/
def payloadOf (l : List Instr) : List Byte :=
  l.flatMap encode

/-- Subframes that a server with this buffer size takes (30_encoding.md R81, R82). -/
def requestsWf (bufferSize : Nat) (l : List Instr) : Prop :=
  ∀ i ∈ l, i.isRequest = true ∧ i.wf bufferSize = true

/-- No scanned poll shares its payload, and a slot can take its channel (42_dispatcher.md R145, R146). -/
def pollsOk (s : State) (l : List Instr) : Prop :=
  (∀ i ∈ l, ∀ ch, pollChannel i = some ch → l.length = 1 ∧ findSlot s.slots ch ≠ none)

/-- The bytes decode, one subframe after another and whatever their encoding, to these subframes, and leave `rest`
(30_encoding.md R84). -/
def decodesTo (bufferSize : Nat) : List Byte → List Instr → List Byte → Prop
  | bytes, [], rest => bytes = rest
  | bytes, i :: l, rest => ∃ mid, decode bufferSize bytes = .ok i mid ∧ decodesTo bufferSize mid l rest

/-- `start` and `count` of a WRM record (45_client.md R220). -/
def writeRange : Instr → Option (U32 × Nat)
  | .wrmI8 start vs => some (start, vs.length)
  | .wrmI16 start vs => some (start, vs.length)
  | .wrmI32 start vs => some (start, vs.length)
  | .wrmF32 start vs => some (start, vs.length)
  | .rdmI8 _ _ | .rdmI16 _ _ | .rdmI32 _ _ | .rdmF32 _ _ => none
  | .wrI8 _ _ | .wrI16 _ _ | .wrI32 _ _ | .wrF32 _ _ => none
  | .rdI8 _ | .rdI16 _ | .rdI32 _ | .rdF32 _ => none
  | .rplI8 _ _ | .rplI16 _ _ | .rplI32 _ _ | .rplF32 _ _ => none
  | .rplmI8 _ _ | .rplmI16 _ _ | .rplmI32 _ _ | .rplmF32 _ _ => none
  | .werr _ _ | .rerr _ _ | .tunC2S _ _ | .tunS2C _ _ => none

/-- `start` and `count` of an RDM record (45_client.md R220). -/
def readRange : Instr → Option (U32 × Nat)
  | .rdmI8 start count => some (start, count.toNat)
  | .rdmI16 start count => some (start, count.toNat)
  | .rdmI32 start count => some (start, count.toNat)
  | .rdmF32 start count => some (start, count.toNat)
  | .wrmI8 _ _ | .wrmI16 _ _ | .wrmI32 _ _ | .wrmF32 _ _ => none
  | .wrI8 _ _ | .wrI16 _ _ | .wrI32 _ _ | .wrF32 _ _ => none
  | .rdI8 _ | .rdI16 _ | .rdI32 _ | .rdF32 _ => none
  | .rplI8 _ _ | .rplI16 _ _ | .rplI32 _ _ | .rplF32 _ _ => none
  | .rplmI8 _ _ | .rplmI16 _ _ | .rplmI32 _ _ | .rplmF32 _ _ => none
  | .werr _ _ | .rerr _ _ | .tunC2S _ _ | .tunS2C _ _ => none

/-- The read asked for is one that this read entry answers: the register with the representation of the value, or the
register alone for an error (45_client.md R234). -/
def answersRead : ReadEntry → U32 × Rep → Prop
  | .val reg v, p => p = (reg, v.rep)
  | .err reg _, p => p.1 = reg

/-- Offer the bytes of a list on RX, one by one. -/
def offerBytes (bs : List Byte) : List Offer :=
  bs.map fun b => { event := .rxByte b, before := none }

end Sys2Proof.Machine
end

