-- ==== Sys2Proof/Certificates/Slice0/Obligations.lean ====
section
/-! DEFINITION. The statements for the provers, each with the rules of spec/ it rests on. Premises on the state are
written out, or are named in Safety; a statement about every state holds in states that no run reaches too. -/

section Slice0Obligations

open Sys2Proof Sys2Proof.Machine

/-! Varuints and subframes. -/

/-- 40_varuint.md R106 (derived there from R100 and R102): decoding an encoded value gives it back, whatever follows. -/
def Obligations.VaruintRoundTrip : Prop :=
  ∀ (v : U32) (rest : List Byte), varDecode (varEncode v ++ rest) = some (v, vlen v)

/-- 20_memory.md R54, 40_varuint.md R100: the bytes of a value are its 7-bit chunks, least significant first, every byte
but the last with its continuation flag set, and no leading zero chunk. -/
def Obligations.VaruintEncodesChunks : Prop :=
  ∀ v : U32, ∃ (init : List Byte) (last : Byte), varEncode v = init ++ [last] ∧
    (∀ b ∈ init, b.msb = true) ∧ last.msb = false ∧ (init = [] ∨ last ≠ 0#8) ∧
    (init ++ [last]).foldr (fun b high => b.toNat % 128 + 128 * high) 0 = v.toNat

/-- 40_varuint.md R101 (derived there from R100): the length of an encoded value. -/
def Obligations.VaruintLength : Prop :=
  ∀ v : U32, vlen v =
    if v.toNat < 2 ^ 7 then 1 else if v.toNat < 2 ^ 14 then 2 else if v.toNat < 2 ^ 21 then 3
    else if v.toNat < 2 ^ 28 then 4 else 5

/-- 40_varuint.md R103: decoding fails exactly where the list ends before a byte with bit 7 clear, or where the first
five bytes all have bit 7 set. -/
def Obligations.VaruintMalformedExactly : Prop :=
  ∀ buf : List Byte, varDecode buf = none ↔
    (buf.length < 5 ∧ ∀ b ∈ buf, b.msb = true) ∨ (5 ≤ buf.length ∧ ∀ b ∈ buf.take 5, b.msb = true)

/-- 40_varuint.md R102, R104 and R105 (R104 and R105 are decisions D14 and D15 of the spec): any sequence of up to five
bytes, the last alone with bit 7 clear, decodes to the sum of its chunks modulo 2^32 and is consumed whole. -/
def Obligations.VaruintDecodesSum : Prop :=
  ∀ (init : List Byte) (last : Byte) (rest : List Byte), init.length ≤ 4 → (∀ b ∈ init, b.msb = true) →
    last.msb = false →
    varDecode (init ++ last :: rest) =
      some (BitVec.ofNat 32 ((init ++ [last]).foldr (fun b high => b.toNat % 128 + 128 * high) 0), init.length + 1)

/-- 30_encoding.md R80, R84; 42_dispatcher.md R143: decoding an encoded well-formed subframe gives it back, with every
operand at every value the encoding admits, and leaves the bytes that follow. -/
def Obligations.DecodeOfEncode : Prop :=
  ∀ (bufferSize : Nat) (i : Instr) (rest : List Byte), i.wf bufferSize = true →
    decode bufferSize (encode i ++ rest) = .ok i rest

/-- 30_encoding.md R81, R84: what is decoded is well-formed, and its length is found from its own bytes. -/
def Obligations.DecodedSubframeIsWellFormed : Prop :=
  ∀ (bufferSize : Nat) (bytes : List Byte) (i : Instr) (rest : List Byte), decode bufferSize bytes = .ok i rest →
    i.wf bufferSize = true ∧
      ∃ used, bytes = used ++ rest ∧ used ≠ [] ∧ ∀ more, decode bufferSize (used ++ more) = .ok i more

/-- 30_encoding.md R77, R82 (R82 is decision D22 of the spec): a server decodes the request class and calls the reply
class malformed, a client the other way round, and every tag of no class is unknown to both. -/
def Obligations.TagClassDecidesDirection : Prop :=
  ∀ (bufferSize : Nat) (bytes : List Byte) (tag : U32) (used : Nat), varDecode bytes = some (tag, used) →
    match tagClass tag.toNat with
    | .request =>
      decodeAt .server bufferSize bytes = decode bufferSize bytes ∧ (∀ t, decode bufferSize bytes ≠ .unknown t) ∧
        ∃ why, decodeAt .client bufferSize bytes = .malformed why
    | .reply =>
      decodeAt .client bufferSize bytes = decode bufferSize bytes ∧ (∀ t, decode bufferSize bytes ≠ .unknown t) ∧
        ∃ why, decodeAt .server bufferSize bytes = .malformed why
    | .unknown =>
      decodeAt .server bufferSize bytes = .unknown tag ∧ decodeAt .client bufferSize bytes = .unknown tag

/-- 30_encoding.md R83 (derived there from R105): a tag counts by its value, so any encoding of it decodes as the
minimal one does. -/
def Obligations.TagIsIdentifiedByValue : Prop :=
  ∀ (bufferSize : Nat) (tagBytes body : List Byte) (tag : U32), varDecode tagBytes = some (tag, tagBytes.length) →
    decode bufferSize (tagBytes ++ body) = decode bufferSize (varEncode tag ++ body)

/-- Worked examples of the spec (43_register_rpc.md R176 to R201, 44_tunnel.md R211, R212; 41_frame_codec.md R111, R113):
words written out there decode to the subframes they stand for, the default checksum has its check value, and the
example frame is the encoder's. -/
def Obligations.WorkedExamples : Prop :=
  decode 64 [0x12#8, 0xAC#8, 0x02#8, 0x78#8, 0x56#8, 0x34#8, 0x12#8] = .ok (.wrI32 300#32 0x12345678#32) [] ∧
  decode 64 [0x15#8, 0x00#8, 0x01#8, 0xEF#8, 0xBE#8] = .ok (.wrmI16 0#32 [0xBEEF#16]) [] ∧
  decode 64 [0x1A#8, 0x80#8, 0x01#8] = .ok (.rdI32 128#32) [] ∧
  decode 64 [0x1C#8, 0x02#8, 0x03#8] = .ok (.rdmI8 2#32 3#32) [] ∧
  decode 64 [0x23#8, 0x00#8, 0x01#8, 0x00#8, 0xC0#8, 0x7F#8] = .ok (.rplF32 0#32 0x7FC00001#32) [] ∧
  decode 64 [0x25#8, 0x00#8, 0x02#8, 0x01#8, 0x00#8, 0xFF#8, 0xFF#8] = .ok (.rplmI16 0#32 [1#16, 0xFFFF#16]) [] ∧
  decode 64 [0x28#8, 0x05#8, 0x03#8] = .ok (.werr 5#32 3#32) [] ∧
  decode 64 [0x40#8, 0x00#8, 0x02#8, 0x68#8, 0x69#8] = .ok (.tunC2S 0#32 [0x68#8, 0x69#8]) [] ∧
  decode 64 [0x41#8, 0x00#8, 0x02#8, 0x6F#8, 0x6B#8] = .ok (.tunS2C 0#32 [0x6F#8, 0x6B#8]) [] ∧
  crc16 CrcParams.default [0x31#8, 0x32#8, 0x33#8, 0x34#8, 0x35#8, 0x36#8, 0x37#8, 0x38#8, 0x39#8] = 0x29B1#16 ∧
  encodeFrame CrcParams.default 0#7 true 1#8 [0x18#8, 0x02#8] =
    [0x54#8, 0xAB#8, 0x80#8, 0x01#8, 0x02#8, 0x18#8, 0x02#8, 0x22#8, 0x82#8]

/-! Frames. -/

/-- 30_encoding.md R72, 41_frame_codec.md R112, R113: the fields of a frame, in wire order. -/
def Obligations.FrameLayout : Prop :=
  ∀ (p : CrcParams) (src : BitVec 7) (rr : Bool) (dst : Byte) (payload : List Byte),
    ∃ (source low high : Byte) (front : List Byte),
      front = [0x54#8, 0xAB#8, source, dst] ++ varEncode (BitVec.ofNat 32 payload.length) ++ payload ∧
      encodeFrame p src rr dst payload = front ++ [low, high] ∧
      source.toNat = (if rr then 128 else 0) + src.toNat ∧
      sourceId source = src ∧ responseRequested source = rr ∧
      low.toNat + 256 * high.toNat = (crc16 p (front ++ [0x00#8, 0x00#8])).toNat ∧
      (encodeFrame p src rr dst payload).length =
        6 + vlen (BitVec.ofNat 32 payload.length) + payload.length

/-- 41_frame_codec.md R113, R128: decoding an encoded frame gives back what was encoded, and looks at no byte after
it. -/
def Obligations.DecodeOfEncodedFrame : Prop :=
  ∀ (c : Config) (src : BitVec 7) (rr : Bool) (dst : Byte) (payload rest : List Byte), c.bufferSize < 2 ^ 32 →
    payload.length ≤ c.bufferSize →
    tryDecode c (encodeFrame c.crc src rr dst payload ++ rest) = .frame src rr dst payload

/-- 41_frame_codec.md R129, first part (its ground is general knowledge, by the spec's own words): with a checksum
polynomial that has a constant term, changing any one byte of the source, destination, payload or checksum field of a
frame, so every single-bit error there, makes the checksum fail. The header and length bytes are left out: a change there
moves the frame itself. -/
def Obligations.DamagedByteFailsChecksum : Prop :=
  ∀ (c : Config) (src : BitVec 7) (rr : Bool) (dst : Byte) (payload : List Byte) (j : Nat) (b : Byte),
    c.bufferSize < 2 ^ 32 → payload.length ≤ c.bufferSize → c.crc.poly.getLsbD 0 = true →
    (j = 2 ∨ j = 3 ∨ 4 + vlen (BitVec.ofNat 32 payload.length) ≤ j) →
    j < (encodeFrame c.crc src rr dst payload).length →
    (encodeFrame c.crc src rr dst payload)[j]? ≠ some b →
    tryDecode c ((encodeFrame c.crc src rr dst payload).set j b) = .error .checksumMismatch

/-- 41_frame_codec.md R128 (derived there from R116 to R123), R115 to R122: the receiver from `H0`. First, a server that
takes, byte by byte, a list that begins with the header comes to the verdict that `TryDecode` gives; each shorter list is
incomplete. Second, so does a client, up to the last checksum byte of a complete frame, whose checks 45_client.md R227
gives (`ClientChecksInOrder`). Third, in both roles, each byte in `H0` and `H1`: noise is dropped and counts nothing, and
a second 0x54 keeps the receiver in `H1` (R117; decisions D17 and D48 of the spec). -/
def Obligations.ReceiverAgreesWithTryDecode : Prop :=
  (∀ (s : State) (bytes : List Byte) (rest : List Offer), s.cfg.role = .server → s.srvState = .idle →
    s.rxPhase = .h0 → s.inputs = offerBytes bytes ++ rest → bytes.take 2 = [0x54#8, 0xAB#8] →
    (∀ k, k < bytes.length → tryDecode s.cfg (bytes.take k) = .incomplete) →
    ∃ t, Host.Core.run Sys2Proof.core bytes.length s = .next t ∧ t.inputs = rest ∧
      match tryDecode s.cfg bytes with
      | .incomplete => t.srvState = .accum ∧ t.stats = s.stats ∧ t.rxBytes = bytes
      | .frame src rr dst payload =>
        t.srvState = .validate ∧ t.stats = s.stats ∧ checksumOk t = true ∧ sourceId t.rxSrc = src ∧
          responseRequested t.rxSrc = rr ∧ t.rxDst = dst ∧ t.rxPay = payload
      | .error k =>
        (k = .checksumMismatch ∧ t.srvState = .validate ∧ t.stats = s.stats ∧ checksumOk t = false) ∨
          (k = .receiveOverrun ∧ t.srvState = .idle ∧ t.rxPhase = .h0 ∧ t.rxBytes = [] ∧
            t.stats = s.stats.bump .receiveOverrun)) ∧
  (∀ (s : State) (bytes : List Byte) (last : Byte) (rest : List Offer), s.cfg.role = .client → s.rxPhase = .h0 →
    s.inputs = offerBytes (bytes ++ [last]) ++ rest → (bytes ++ [last]).take 2 = [0x54#8, 0xAB#8] →
    (∀ k, k ≤ bytes.length → tryDecode s.cfg ((bytes ++ [last]).take k) = .incomplete) →
    ∃ t, Host.Core.run Sys2Proof.core bytes.length s = .next t ∧ t.inputs = offerBytes [last] ++ rest ∧
      t.rxBytes = bytes ∧ t.stats = s.stats ∧ t.cliState = s.cliState ∧ t.cliReq = s.cliReq ∧
      t.cliResult = s.cliResult ∧
      let sumOk := frameCrc s.cfg.crc (bytes.take (bytes.length - 1)) = setCrcHigh t.rxCrc last
      match tryDecode s.cfg (bytes ++ [last]) with
      | .incomplete =>
        ∃ u, step t = .next u ∧ u.inputs = rest ∧ u.rxPhase ≠ .h0 ∧ u.rxBytes = bytes ++ [last] ∧
          u.stats = s.stats ∧ u.cliState = s.cliState ∧ u.cliReq = s.cliReq ∧ u.cliResult = s.cliResult
      | .frame src rr dst payload =>
        t.rxPhase = .crc1 ∧ sumOk ∧ sourceId t.rxSrc = src ∧ responseRequested t.rxSrc = rr ∧ t.rxDst = dst ∧
          t.rxPay = payload
      | .error k =>
        (k = .checksumMismatch ∧ t.rxPhase = .crc1 ∧ ¬sumOk) ∨
          (k = .receiveOverrun ∧ step t = .next (droppedFrame .receiveOverrun
            { t with inputs := rest, rxLen := t.rxLen + BitVec.ofNat 32 (last.toNat % 128 * 2 ^ (7 * t.rxLenN))
                     rxLenN := t.rxLenN + 1 }))) ∧
  ∀ (s : State) (b : Byte),
    (s.rxPhase = .h0 → b = 0x54#8 → handle (.rxByte b) s = .next { s with rxBytes := [0x54#8], rxPhase := .h1 }) ∧
    (s.rxPhase = .h0 → b ≠ 0x54#8 → handle (.rxByte b) s = .next s) ∧
    (s.rxPhase = .h1 → b = 0xAB#8 → handle (.rxByte b) s = .next
      { s with rxBytes := [0x54#8, 0xAB#8], rxPhase := .src
               srvState := if s.cfg.role = .server then .accum else s.srvState }) ∧
    (s.rxPhase = .h1 → b = 0x54#8 → handle (.rxByte b) s = .next { s with rxBytes := [0x54#8] }) ∧
    (s.rxPhase = .h1 → b ≠ 0xAB#8 → b ≠ 0x54#8 →
      handle (.rxByte b) s = .next { s with rxBytes := [], rxPhase := .h0 })

/-- 41_frame_codec.md R113 to R125: a frame addressed to an idle server, or to the broadcast id, is accepted when its
last byte has been taken and its checks have run, with its fields as they were encoded. -/
def Obligations.SentFrameIsAccepted : Prop :=
  ∀ (s : State) (src : BitVec 7) (rr : Bool) (dst : Byte) (payload : List Byte) (rest : List Offer),
    s.cfg.wf = true → s.cfg.role = .server → s.srvState = .idle → s.rxPhase = .h0 →
    payload.length ≤ s.cfg.bufferSize → (dst = s.nodeId ∨ s.cfg.broadcastId = some dst) →
    s.inputs = offerBytes (encodeFrame s.cfg.crc src rr dst payload) ++ rest →
    (∀ o more, rest = o :: more → o.before ≠ some .validate) →
    ∃ t, Host.Core.run Sys2Proof.core ((encodeFrame s.cfg.crc src rr dst payload).length + 1) s = .next t ∧
      t.srvState = .dispatch ∧ t.accSrcId = src ∧ t.accRr = rr ∧ t.accDst = dst ∧ t.accPayload = payload ∧
      t.inputs = rest ∧ t.stats = s.stats ∧ t.slots = s.slots ∧ t.nodeId = s.nodeId ∧ t.outputs = s.outputs

/-- 41_frame_codec.md R123 to R126, 42_dispatcher.md R141 (the order of the checks is decision D16 of the spec): a server
in `VALIDATE` drops a frame whose checksum differs, then one for another node, each with one count and no other effect,
and accepts the rest. -/
def Obligations.ValidateChecksInOrder : Prop :=
  ∀ s : State, s.cfg.role = .server → s.srvState = .validate → noEarlyEvent s →
    (frameCrc s.cfg.crc (s.rxBytes.take (s.rxBytes.length - 2)) ≠ s.rxCrc →
      step s = .next (droppedFrame .checksumMismatch s)) ∧
    (frameCrc s.cfg.crc (s.rxBytes.take (s.rxBytes.length - 2)) = s.rxCrc →
      ¬(s.rxDst = s.nodeId ∨ s.cfg.broadcastId = some s.rxDst) → step s = .next (droppedFrame .wrongId s)) ∧
    (frameCrc s.cfg.crc (s.rxBytes.take (s.rxBytes.length - 2)) = s.rxCrc →
      (s.rxDst = s.nodeId ∨ s.cfg.broadcastId = some s.rxDst) →
      step s = .next
        { s with
          accSrcId := sourceId s.rxSrc, accRr := s.rxSrc.msb, accDst := s.rxDst, accPayload := s.rxPay
          rxBytes := [], rxPay := [], rxPhase := .h0, srvState := .dispatch
          scanOutcome := .ok, scanList := [], results := [], replyNeeded := false, replyPayload := []
          txFrame := none })

/-- 41_frame_codec.md R127, 45_client.md R238 (decision D35 of the spec): closing the stream drops the partial frame,
counts nothing, and leaves an accepted frame and an outstanding request alone. -/
def Obligations.RxCloseDropsPartialFrame : Prop :=
  ∀ s : State,
    (s.cfg.role = .client → handle .rxClose s = .next { s with rxBytes := [], rxPay := [], rxPhase := .h0 }) ∧
    (s.cfg.role = .server → (s.srvState = .idle ∨ s.srvState = .accum ∨ s.srvState = .validate) →
      handle .rxClose s = .next { s with rxBytes := [], rxPay := [], rxPhase := .h0, srvState := .idle }) ∧
    (s.cfg.role = .server → (s.srvState = .dispatch ∨ s.srvState = .compose ∨ s.srvState = .send) →
      handle .rxClose s = .next s)

/-- 70_reset_and_hazards.md R283, 10_state.md R38 (decision D34 of the spec; the list of offers is the model's, log entry
4): a step takes at most the first event of the receive stream, so bytes the host holds come later in order; a server
past `ACCUM` takes no byte. -/
def Obligations.ReceiveStreamKeepsItsOrder : Prop :=
  ∀ s t : State, step s = .next t →
    (t.inputs.filter (fun o => o.event.isReceive) = s.inputs.filter (fun o => o.event.isReceive) ∨
      t.inputs.filter (fun o => o.event.isReceive) = (s.inputs.filter (fun o => o.event.isReceive)).tail) ∧
    (s.cfg.role = .server →
      (s.srvState = .validate ∨ s.srvState = .dispatch ∨ s.srvState = .compose ∨ s.srvState = .send) →
      ∀ b mark, t.inputs.count ⟨.rxByte b, mark⟩ = s.inputs.count ⟨.rxByte b, mark⟩)

/-! Executing subframes. -/

/-- 43_register_rpc.md R170 (that a success is answered by nothing is decision D26 of the spec): WR makes one write call
and leaves the register with its code where the code is not 0; such a record is composed as one WERR, any other as
nothing. Nothing else of the state changes. -/
def Obligations.WriteSingleRuns : Prop :=
  (∀ (reg code : U32) (n : Nat) (slots : List Slot),
    composeOne n slots (.wres (if code = 0#32 then [] else [(reg, code)])) =
      (if code = 0#32 then [] else [.werr reg code], slots)) ∧
  ∀ (s : State) (reg : U32), s.cfg.role = .server →
    let after := fun v : Value =>
      let code := (answerAt s 0 (.write reg v)).code
      afterCalls s [.memWrite reg v code] (.wres (if code = 0#32 then [] else [(reg, code)]))
    (∀ v, exec (.wrI8 reg v) s = .next (after (.i8 v))) ∧ (∀ v, exec (.wrI16 reg v) s = .next (after (.i16 v))) ∧
      (∀ v, exec (.wrI32 reg v) s = .next (after (.i32 v))) ∧ (∀ v, exec (.wrF32 reg v) s = .next (after (.f32 v)))

/-- 43_register_rpc.md R171 (no stop at a failed register, and the ascending order, are decisions D26 and D31 of the
spec): WRM makes one write call for each value, the registers ascending from `start`, and keeps those whose code is not
0, in call order. With a range as R81 (c) asks, no register wraps. Nothing else of the state changes. -/
def Obligations.WriteMultipleRuns : Prop :=
  (∀ (start : U32) (i n : Nat), start.toNat + n ≤ 2 ^ 32 → i < n → (regAt start i).toNat = start.toNat + i) ∧
  ∀ (s : State) (start : U32), s.cfg.role = .server →
    let after := fun vs : List Value =>
      afterCalls s (vs.mapIdx fun i v => .memWrite (regAt start i) v (writeCode s start i v))
        (.wres ((vs.mapIdx fun i v => (regAt start i, writeCode s start i v)).filter fun e => decide (e.2 ≠ 0#32)))
    (∀ vs, exec (.wrmI8 start vs) s = .next (after (vs.map .i8))) ∧
      (∀ vs, exec (.wrmI16 start vs) s = .next (after (vs.map .i16))) ∧
      (∀ vs, exec (.wrmI32 start vs) s = .next (after (vs.map .i32))) ∧
      (∀ vs, exec (.wrmF32 start vs) s = .next (after (vs.map .f32)))

/-- 43_register_rpc.md R172: RD makes one read call and leaves its answer, `OK(bits)` with the width of the
representation or `ERR(code)`. Nothing else of the state changes. -/
def Obligations.ReadSingleRuns : Prop :=
  ∀ (s : State) (reg : U32), s.cfg.role = .server →
    let after := fun (rep : Rep) (x : ReadAnswer) =>
      afterCalls s [.memRead reg rep x] (.rres false rep [(reg, x)])
    let answer := fun (rep : Rep) (ok : U32 → Value) =>
      let a := answerAt s 0 (.read reg rep)
      if a.code = 0#32 then ReadAnswer.ok (ok a.bits) else .err a.code
    exec (.rdI8 reg) s = .next (after .i8 (answer .i8 fun b => .i8 (b.setWidth 8))) ∧
      exec (.rdI16 reg) s = .next (after .i16 (answer .i16 fun b => .i16 (b.setWidth 16))) ∧
      exec (.rdI32 reg) s = .next (after .i32 (answer .i32 .i32)) ∧
      exec (.rdF32 reg) s = .next (after .f32 (answer .f32 .f32))

/-- 43_register_rpc.md R173 (the order and a count of 0 are decisions D31 and D30 of the spec): RDM makes one read call for
each of `count` registers ascending from `start`, and leaves the answers in that order. Nothing else of the state
changes. -/
def Obligations.ReadMultipleRuns : Prop :=
  ∀ (s : State) (start count : U32), s.cfg.role = .server →
    let after := fun rep : Rep =>
      afterCalls s ((List.range count.toNat).map fun i => .memRead (regAt start i) rep (readAt s rep start i))
        (.rres true rep ((List.range count.toNat).map fun i => (regAt start i, readAt s rep start i)))
    exec (.rdmI8 start count) s = .next (after .i8) ∧ exec (.rdmI16 start count) s = .next (after .i16) ∧
      exec (.rdmI32 start count) s = .next (after .i32) ∧ exec (.rdmF32 start count) s = .next (after .f32)

/-- 45_client.md R233: what each reply subframe adds to the entries a client collects (kept in `mentions`, log entry 5).
Nothing else of the state changes. -/
def Obligations.ReplySubframesAddEntries : Prop :=
  ∀ s : State, s.cfg.role = .client →
    let reads := fun l : List ReadEntry => { s with mentions := { s.mentions with reads := s.mentions.reads ++ l } }
    let many := fun (start : U32) (vs : List Value) => reads (vs.mapIdx fun i v => .val (regAt start i) v)
    (∀ reg v, exec (.rplI8 reg v) s = .next (reads [.val reg (.i8 v)])) ∧
    (∀ reg v, exec (.rplI16 reg v) s = .next (reads [.val reg (.i16 v)])) ∧
    (∀ reg v, exec (.rplI32 reg v) s = .next (reads [.val reg (.i32 v)])) ∧
    (∀ reg v, exec (.rplF32 reg v) s = .next (reads [.val reg (.f32 v)])) ∧
    (∀ start vs, exec (.rplmI8 start vs) s = .next (many start (vs.map .i8))) ∧
    (∀ start vs, exec (.rplmI16 start vs) s = .next (many start (vs.map .i16))) ∧
    (∀ start vs, exec (.rplmI32 start vs) s = .next (many start (vs.map .i32))) ∧
    (∀ start vs, exec (.rplmF32 start vs) s = .next (many start (vs.map .f32))) ∧
    (∀ reg code, exec (.rerr reg code) s = .next (reads [.err reg code])) ∧
    (∀ reg code, exec (.werr reg code) s =
      .next { s with mentions := { s.mentions with writeErrors := s.mentions.writeErrors ++ [(reg, code)] } }) ∧
    (∀ ch bytes, exec (.tunS2C ch bytes) s =
      .next { s with mentions := { s.mentions with tunnel := s.mentions.tunnel ++ [(ch, bytes)] } })

/-- 44_tunnel.md R211, R214: TUNC2S binds its channel to the slot found, appends to that slot's inbound FIFO what it has
room for, and leaves a record; no other slot and nothing else of the state changes. Where no slot can take the channel
the subframe is malformed (42_dispatcher.md R146, R149; that `exec` says so itself is the model's, log entry 11). -/
def Obligations.TunnelPollRuns : Prop :=
  ∀ (s : State) (ch : U32) (bytes : List Byte), s.cfg.role = .server →
    (∀ i, findSlot s.slots ch = some i →
      ∃ slots, exec (.tunC2S ch bytes) s = .next { s with slots := slots, results := s.results ++ [.tres ch i] } ∧
        (∀ j, j ≠ i → slots[j]? = s.slots[j]?) ∧
        ∀ sl, s.slots[i]? = some sl →
          slots[i]? = some { bound := true, chan := ch, outFifo := sl.outFifo
                             inFifo := sl.inFifo ++ bytes.take (s.cfg.tunnelCapacity - sl.inFifo.length) }) ∧
    (findSlot s.slots ch = none → exec (.tunC2S ch bytes) s = .next (onlyCountedMalformed s))

/-- 43_register_rpc.md R175, 30_encoding.md R82, 45_client.md R232 (that `exec` says so itself is the model's, log entry 11):
a subframe of the other direction's class only counts as malformed, and resolves a client's request. -/
def Obligations.WrongDirectionIsMalformed : Prop :=
  ∀ (i : Instr) (s : State),
    (s.cfg.role = .server → i.isRequest = false → exec i s = .next (onlyCountedMalformed s)) ∧
    (s.cfg.role = .client → i.isRequest = true → exec i s = .next (resolvedMalformed s))

/-! Dispatch. -/

/-- 42_dispatcher.md R140, R144, R147, R150: where the accepted payload decodes to one well-formed subframe, the step in
`DISPATCH` is that subframe's execution, with the scan's record before it and `COMPOSE` after it. -/
def Obligations.StepRunsServedSubframe : Prop :=
  ∀ (s : State) (i : Instr), s.cfg.role = .server → s.srvState = .dispatch → noEarlyEvent s → i.isRequest = true →
    decode s.cfg.bufferSize s.accPayload = .ok i [] →
    (∀ ch, pollChannel i = some ch → findSlot s.slots ch ≠ none) →
    ∃ t, exec i { s with scanOutcome := .ok, scanList := [i] } = .next t ∧ t.srvState = .dispatch ∧
      step s = .next { t with srvState := .compose }

/-- 41_frame_codec.md R122, 45_client.md R227, R228, R230, R232, R234 (keeping what stands before an unknown tag is
decision D51 of the spec): the step in which a client that awaits a reply takes the last checksum byte of a checked frame
from the node it asked. Where the payload decodes to one well-formed subframe, the step is that subframe's execution on
the cleared receiver (log entry 7), then the coverage check. A payload of any number of reply subframes, none among
them, is executed in order; an unknown tag after them is counted and they are kept (with what the check may count beside
it: log entry 8); a malformed subframe after them delivers none of them. -/
def Obligations.StepRunsRepliedSubframe : Prop :=
  ∀ (s : State) (req : CliReq) (b : Byte) (mark : Option SrvState) (rest : List Offer), s.cfg.role = .client →
    s.cliState = .await → s.cliReq = some req → s.rxPhase = .crc1 → s.inputs = ⟨.rxByte b, mark⟩ :: rest →
    frameCrc s.cfg.crc (s.rxBytes.take (s.rxBytes.length - 1)) = setCrcHigh s.rxCrc b → s.rxDst = s.nodeId →
    idByte (sourceId s.rxSrc) = req.dest →
    let u := { s with inputs := rest, rxCrc := setCrcHigh s.rxCrc b, rxBytes := [], rxPay := [], rxPhase := .h0 }
    (∀ i, i.isRequest = false → decode s.cfg.bufferSize s.rxPay = .ok i [] →
      ∃ t, exec i u = .next t ∧ step s = .next (conclude req t)) ∧
    ∀ (l : List Instr) (tail : List Byte), (∀ i ∈ l, i.isRequest = false) →
      decodesTo s.cfg.bufferSize s.rxPay l tail →
      (tail = [] → ∃ t, execAll l u = .next t ∧ step s = .next (conclude req t)) ∧
      (∀ tag, decode s.cfg.bufferSize tail = .unknown tag →
        ∃ t, execAll l { u with stats := u.stats.bump .unknownSubframe } = .next t ∧
          step s = .next (conclude req t)) ∧
      (∀ why, tail ≠ [] → decodeAt .client s.cfg.bufferSize tail = .malformed why →
        step s = .next (resolvedMalformed u))

/-- 42_dispatcher.md R144, R147, R150 to R152: a payload of well-formed request subframes is executed in order in one step,
one result record each. -/
def Obligations.DispatchRunsWholePayload : Prop :=
  ∀ (s : State) (l : List Instr), s.cfg.role = .server → s.srvState = .dispatch → noEarlyEvent s →
    requestsWf s.cfg.bufferSize l → pollsOk s l → s.accPayload = payloadOf l →
    ∃ t, execAll l { s with scanOutcome := .ok, scanList := l } = .next t ∧
      t.results.length = s.results.length + l.length ∧ step s = .next { t with srvState := .compose }

/-- 42_dispatcher.md R144, R147, R148 (decision D21 of the spec): at an unknown tag the subframes before it are executed,
one unknown subframe is counted, and the engine goes on to `COMPOSE`. -/
def Obligations.UnknownTagRunsPrefix : Prop :=
  ∀ (s : State) (l : List Instr) (tail : List Byte) (tag : U32), s.cfg.role = .server → s.srvState = .dispatch →
    noEarlyEvent s → requestsWf s.cfg.bufferSize l → pollsOk s l → decode s.cfg.bufferSize tail = .unknown tag →
    s.accPayload = payloadOf l ++ tail →
    ∃ t, execAll l { s with scanOutcome := .unknown, scanList := l } = .next t ∧
      step s = .next { t with stats := t.stats.bump .unknownSubframe, srvState := .compose }

/-- 42_dispatcher.md R144, R147, R149 (decision D20 of the spec), 60_exceptions.md R256: a malformed subframe anywhere in the
payload leaves the count and nothing of the frame: no call, no tunnel byte, no reply. -/
def Obligations.MalformedPayloadHasNoEffect : Prop :=
  ∀ (s : State) (l : List Instr) (tail : List Byte) (why : Malformed), s.cfg.role = .server →
    s.srvState = .dispatch → noEarlyEvent s → requestsWf s.cfg.bufferSize l → tail ≠ [] →
    decodeAt .server s.cfg.bufferSize tail = .malformed why → s.accPayload = payloadOf l ++ tail →
    step s = .next (onlyCountedMalformed s)

/-- 42_dispatcher.md R145, R146 (decisions D23 and D32 of the spec): a tunnel poll beside a second subframe, or of a
channel that no slot can take, makes the payload malformed, and it has no effect but the count. -/
def Obligations.TunnelPollMustBeAloneWithSlot : Prop :=
  ∀ (s : State) (l : List Instr) (tail : List Byte), s.cfg.role = .server → s.srvState = .dispatch →
    noEarlyEvent s → requestsWf s.cfg.bufferSize l →
    (tail = [] ∨ ∃ tag, decode s.cfg.bufferSize tail = .unknown tag) → s.accPayload = payloadOf l ++ tail →
    (∃ i ∈ l, ∃ ch, pollChannel i = some ch ∧ (1 < l.length ∨ findSlot s.slots ch = none)) →
    step s = .next (onlyCountedMalformed s)

/-! Composing and sending a reply. -/

/-- 42_dispatcher.md R153, R155, R156, R158 (decisions D24, D25 and D29 of the spec): a frame that asked for a response, or
holds a read or a tunnel poll, is answered with the composed subframes that fit, from this node to the frame's source,
and the frame is offered on TX (log entry 6). -/
def Obligations.ReplyIsSentWhenNeeded : Prop :=
  ∀ s : State, s.cfg.role = .server → s.srvState = .compose → noEarlyEvent s →
    (s.accRr = true ∨ ∃ i ∈ s.scanList, isRead i = true ∨ ∃ ch, pollChannel i = some ch) →
    let payload := packReply s.cfg.bufferSize (composedReply s)
    let frame := encodeFrame s.cfg.crc (s.nodeId.setWidth 7) false (s.accSrcId.setWidth 8) payload
    step s = .next
      { s with
        replyNeeded := true, replyPayload := payload, txFrame := some frame, srvState := .send
        slots := (composeAll s.cfg.bufferSize s.results s.slots).2, outputs := s.outputs ++ [.tx frame] }

/-- 42_dispatcher.md R157: where no reply is needed the results are dropped, no tunnel byte is taken, and the engine is
idle. -/
def Obligations.NoReplyDropsResults : Prop :=
  ∀ s : State, s.cfg.role = .server → s.srvState = .compose → noEarlyEvent s →
    ¬(s.accRr = true ∨ ∃ i ∈ s.scanList, isRead i = true ∨ ∃ ch, pollChannel i = some ch) →
    step s = .next { s with replyNeeded := false, results := [], srvState := .idle }

/-- 42_dispatcher.md R155 (decision D29 of the spec): a reply payload is the longest run of whole subframes from the first
that fits. -/
def Obligations.ReplyPayloadIsLongestFit : Prop :=
  ∀ (room : Nat) (subs : List Instr), ∃ k, k ≤ subs.length ∧ packReply room subs = payloadOf (subs.take k) ∧
    (payloadOf (subs.take k)).length ≤ room ∧
    (k < subs.length → room < (payloadOf (subs.take (k + 1))).length)

/-- 42_dispatcher.md R154, 44_tunnel.md R213: every subframe composed for a reply fits a reply alone. -/
def Obligations.ComposedSubframesFit : Prop :=
  ∀ (bufferSize : Nat) (results : List ResultRec) (slots : List Slot), 16 ≤ bufferSize → bufferSize ≤ 2 ^ 28 - 1 →
    ∀ i ∈ (composeAll bufferSize results slots).1, i.isRequest = false ∧ (encode i).length ≤ bufferSize

/-- 42_dispatcher.md R161 (derived there from R151 and R154): the subframes composed for a reply, before R155 cuts them to
what fits, mention every register of every executed read exactly once, in the order asked. -/
def Obligations.ReplyMentionsEveryRead : Prop :=
  ∀ (s t : State) (l : List Instr), s.cfg.wf = true → s.cfg.role = .server → s.results = [] →
    (∀ i ∈ l, i.isRequest = true) → execAll l s = .next t →
    (composedReply t).flatMap mentionedReads = l.flatMap registersAsked

/-- 43_register_rpc.md R174, 42_dispatcher.md R154, 45_client.md R233, 20_memory.md R57: a client that executes the composed
subframes collects exactly the answers the Server gave, values and codes unchanged and in order. How many of them a frame
carries (R155) and the bytes on the wire are left out (`ReplyPayloadIsLongestFit` and `ReplyPayloadParsesBack`). -/
def Obligations.ReplyCarriesAnswersUnchanged : Prop :=
  ∀ (s t c u : State) (l : List Instr), s.cfg.wf = true → s.cfg.role = .server → s.results = [] →
    (∀ i ∈ l, i.isRequest = true) → execAll l s = .next t → c.cfg.role = .client → c.mentions = Mentions.empty →
    execAll (composedReply t) c = .next u →
    u.mentions.reads = t.results.flatMap readsIn ∧ u.mentions.writeErrors = t.results.flatMap errorsIn

/-- 45_client.md R224, R225, R234 with 42_dispatcher.md R154, R161: whatever the Server answers, the subframes a server
composes for a request, where none is cut, cover that request at the client that sent it. The verdict `OK` rests on
decision D41 of the spec, the multiset match. -/
def Obligations.WholeReplyCoversRequest : Prop :=
  ∀ (s t c u : State) (req : Request), s.cfg.wf = true → s.cfg.role = .server → s.results = [] →
    (∀ i ∈ req.subs, i.isRequest = true) → pollsOk s req.subs → execAll req.subs s = .next t →
    c.cfg.role = .client → c.mentions = Mentions.empty → execAll (composedReply t) c = .next u →
    coverage (requestRecord req) u.mentions = .ok

/-- 42_dispatcher.md R154, R155, 45_client.md R230, R231: the payload of a reply is walked by a client with the same buffer
size as the subframes the server composed, whole, none added, none changed. -/
def Obligations.ReplyPayloadParsesBack : Prop :=
  ∀ (s t : State) (l : List Instr), s.cfg.wf = true → s.cfg.role = .server → s.results = [] →
    requestsWf s.cfg.bufferSize l → execAll l s = .next t →
    ∃ k, k ≤ (composedReply t).length ∧
      walkPayload .client t.cfg.bufferSize (packReply t.cfg.bufferSize (composedReply t)) =
        (.ok, (composedReply t).take k) ∧
      ((payloadOf (composedReply t)).length ≤ t.cfg.bufferSize → k = (composedReply t).length)

/-- 44_tunnel.md R213 (decision D33 of the spec): the server-to-client subframe takes from the head of the channel's
outbound FIFO as many bytes as fit a reply alone, never fewer than 9 while there are so many, and touches no other slot. -/
def Obligations.ServerToClientTakesWhatFits : Prop :=
  ∀ (bufferSize : Nat) (ch : U32) (i : Nat) (slots : List Slot) (sl : Slot), 16 ≤ bufferSize →
    bufferSize ≤ 2 ^ 28 - 1 → slots[i]? = some sl →
    ∃ n left, serverToClient bufferSize ch i slots = (.tunS2C ch (sl.outFifo.take n), left) ∧
      n ≤ sl.outFifo.length ∧ (9 ≤ n ∨ n = sl.outFifo.length) ∧
      (encode (.tunS2C ch (sl.outFifo.take n))).length ≤ bufferSize ∧
      (n < sl.outFifo.length → bufferSize < (encode (.tunS2C ch (sl.outFifo.take (n + 1)))).length) ∧
      left[i]? = some { sl with outFifo := sl.outFifo.drop n } ∧ ∀ j, j ≠ i → left[j]? = slots[j]?

/-- 42_dispatcher.md R158, R159 (decision D36 of the spec): in `SEND` the end of transmission, failed or not, returns the
server to `IDLE` and does nothing else. -/
def Obligations.SendEndsInIdle : Prop :=
  ∀ (s : State) (ok : Bool) (mark : Option SrvState) (rest : List Offer), s.cfg.role = .server →
    s.srvState = .send → s.inputs = ⟨.txDone ok, mark⟩ :: rest →
    step s = .next { s with inputs := rest, txFrame := none, srvState := .idle }

/-! Tunnel channels. -/

/-- 44_tunnel.md R210: `FindSlot` answers a slot bound to the channel, else the lowest free one, else none. -/
def Obligations.FindSlotPrefersBound : Prop :=
  ∀ (slots : List Slot) (ch : U32),
    (∀ i, findSlot slots ch = some i → ∃ sl, slots[i]? = some sl ∧
      ((sl.bound = true ∧ sl.chan = ch) ∨
        (sl.bound = false ∧ (∀ x ∈ slots, x.bound = true → x.chan ≠ ch) ∧
          ∀ j x, j < i → slots[j]? = some x → x.bound = true))) ∧
    (findSlot slots ch = none ↔ ∀ x ∈ slots, x.bound = true ∧ x.chan ≠ ch)

/-- 44_tunnel.md R215, R216, R217 (decisions D27, D32 and D52 of the spec): the application's three operations. -/
def Obligations.TunnelApplicationOperations : Prop :=
  ∀ (s : State) (ch : U32),
    (∀ i, findSlot s.slots ch = some i →
      ∃ slots, handle (.appAlloc ch) s = .next { s with slots := slots, outputs := s.outputs ++ [.appAlloc true] } ∧
        (∀ j, j ≠ i → slots[j]? = s.slots[j]?) ∧
        ∀ sl, s.slots[i]? = some sl → slots[i]? = some { sl with bound := true, chan := ch }) ∧
    (findSlot s.slots ch = none →
      handle (.appAlloc ch) s = .next { s with outputs := s.outputs ++ [.appAlloc false] }) ∧
    (∀ i sl, boundSlot s.slots ch = some i → s.slots[i]? = some sl →
      (∀ n, handle (.appRead ch n) s = .next
        { s with slots := s.slots.set i { sl with inFifo := sl.inFifo.drop n }
                 outputs := s.outputs ++ [.appRead (some (sl.inFifo.take n))] }) ∧
      ∀ bytes,
        let k := min bytes.length (s.cfg.tunnelCapacity - sl.outFifo.length)
        handle (.appWrite ch bytes) s = .next
          { s with slots := s.slots.set i { sl with outFifo := sl.outFifo ++ bytes.take k }
                   outputs := s.outputs ++ [.appWrite (some k)] }) ∧
    (boundSlot s.slots ch = none →
      (∀ n, handle (.appRead ch n) s = .next { s with outputs := s.outputs ++ [.appRead none] }) ∧
      ∀ bytes, handle (.appWrite ch bytes) s = .next { s with outputs := s.outputs ++ [.appWrite none] })

/-- 44_tunnel.md R218, 20_memory.md R64: an operation that names one channel leaves every slot bound to another channel as
it is. -/
def Obligations.ChannelsDoNotInterfere : Prop :=
  ∀ (s : State) (ch : U32) (j : Nat) (sl : Slot), s.slots[j]? = some sl → sl.bound = true → sl.chan ≠ ch →
    (∀ t, (handle (.appAlloc ch) s = .next t ∨ (∃ n, handle (.appRead ch n) s = .next t) ∨
        (∃ bytes, handle (.appWrite ch bytes) s = .next t) ∨ ∃ bytes, exec (.tunC2S ch bytes) s = .next t) →
      t.slots[j]? = some sl) ∧
    ∀ i bufferSize, boundSlot s.slots ch = some i → (serverToClient bufferSize ch i s.slots).2[j]? = some sl

/-! Ports. -/

/-- 10_state.md R21, R22, R25, R26 (decisions D4 and D19 of the spec; the width of a control register write is the model's,
log entry 13): the config, stats and control register operations. -/
def Obligations.ControlRegisterSpace : Prop :=
  ∀ s : State,
    (∀ v : Byte, ∃ id, id.toNat = v.toNat % 128 ∧ handle (.configWrite v) s = .next { s with nodeId := id }) ∧
    handle .configRead s = .next { s with outputs := s.outputs ++ [.configRead s.nodeId] } ∧
    (∀ k, handle (.statsRead k) s = .next { s with outputs := s.outputs ++ [.statsRead
      (([s.stats.wrongId, s.stats.checksumMismatch, s.stats.receiveOverrun, s.stats.unknownSubframe,
        s.stats.missingSubframe, s.stats.malformedSubframe] : List U32)[k]?)] }) ∧
    (∀ i, handle (.controlRead i) s = .next { s with outputs := s.outputs ++ [.controlRead
      (([s.nodeId.setWidth 32, s.stats.wrongId, s.stats.checksumMismatch, s.stats.receiveOverrun,
        s.stats.unknownSubframe, s.stats.missingSubframe, s.stats.malformedSubframe] : List U32)[i]?)] }) ∧
    (∀ v : U32, ∃ id, id.toNat = v.toNat % 128 ∧
      handle (.controlWrite 0 v) s = .next { s with nodeId := id, outputs := s.outputs ++ [.controlWrite true] }) ∧
    (∀ i v, 1 ≤ i → handle (.controlWrite i v) s =
      .next { s with outputs := s.outputs ++ [.controlWrite (decide (i ≤ 6))] })

/-- 10_state.md R38, 44_tunnel.md R219, 20_memory.md R58, 70_reset_and_hazards.md R286 (decision D34 of the spec; the list of
offers and its marks are the model's, log entry 4, and what a `Request` may hold, log entry 20). The first event offered
is taken where it can occur and no internal action comes before it, in `VALIDATE`, `DISPATCH` and `COMPOSE` too where it
is marked so; an event is taken in no other way than where it can occur, and else every offer stays; and an event can
occur in the states of the table's column "accepted in", spelled out. -/
def Obligations.OfferedEventIsTaken : Prop :=
  (∀ (s : State) (o : Offer) (rest : List Offer), s.inputs = o :: rest → accepts s o.event = true →
    (o.before = some s.srvState ∨ s.cfg.role = .client ∨ s.srvState = .idle ∨ s.srvState = .accum ∨
      s.srvState = .send) →
    step s = handle o.event { s with inputs := rest }) ∧
  (∀ s t : State, step s = .next t → t.inputs = s.inputs ∨
    ∃ a o b, s.inputs = a ++ o :: b ∧ accepts s o.event = true ∧ step s = handle o.event { s with inputs := a ++ b }) ∧
  ∀ s : State,
    (∀ b, accepts s (.rxByte b) = true ↔ s.cfg.role = .client ∨ s.srvState = .idle ∨ s.srvState = .accum) ∧
    accepts s .rxClose = true ∧
    (∀ ok, accepts s (.txDone ok) = true ↔
      (s.cfg.role = .server ∧ s.srvState = .send) ∨ (s.cfg.role = .client ∧ s.cliState = .send)) ∧
    (∀ e, ((∃ ch, e = .appAlloc ch) ∨ (∃ ch n, e = .appRead ch n) ∨ ∃ ch bytes, e = .appWrite ch bytes) →
      (accepts s e = true ↔ s.cfg.role = .server ∧ s.srvState ≠ .dispatch ∧ s.srvState ≠ .compose)) ∧
    (∀ v, accepts s (.configWrite v) = true) ∧ accepts s .configRead = true ∧
    (∀ k, accepts s (.statsRead k) = true) ∧ (∀ i, accepts s (.controlRead i) = true) ∧
    (∀ i v, accepts s (.controlWrite i v) = true) ∧
    (∀ req, accepts s (.request req) = true ↔ s.cfg.role = .client ∧ ∀ i ∈ req.subs, i.isRequest = true) ∧
    (accepts s .result = true ↔ s.cfg.role = .client) ∧ (accepts s .timeout = true ↔ s.cfg.role = .client) ∧
    ∀ stored, accepts s (.reset stored) = true

/-! The client. -/

/-- 45_client.md R220 to R226 (the refusals but `BUSY` are decision D43 of the spec): a request is refused with the first
status that applies and no other effect, or recorded and sent; `Result()` gives the last result and changes nothing. -/
def Obligations.RequestIsCheckedAndSent : Prop :=
  (∀ s : State, handle .result s = .next { s with outputs := s.outputs ++ [.result s.cliResult] }) ∧
  ∀ (s : State) (req : Request),
    let refused := fun status => { s with outputs := s.outputs ++ [.requestStatus status] }
    let rangeBad := ∃ i ∈ req.subs, ∃ (start : U32) (count : Nat),
      ((writeRange i = some (start, count) ∨ readRange i = some (start, count)) ∧ 1 ≤ count ∧
        2 ^ 32 - 1 < start.toNat + count - 1) ∨
      (readRange i = some (start, count) ∧ s.cfg.bufferSize < count)
    let mixed := (∃ i ∈ req.subs, ∃ ch, pollChannel i = some ch) ∧ 1 < req.subs.length
    let payload := payloadOf req.subs
    let frame := encodeFrame s.cfg.crc (s.nodeId.setWidth 7) req.rr req.dest payload
    (s.cliState ≠ .idle → handle (.request req) s = .next (refused .busy)) ∧
    (s.cliState = .idle → rangeBad → handle (.request req) s = .next (refused .badRange)) ∧
    (s.cliState = .idle → ¬rangeBad → mixed → handle (.request req) s = .next (refused .tunnelMix)) ∧
    (s.cliState = .idle → ¬rangeBad → ¬mixed → s.cfg.bufferSize < payload.length →
      handle (.request req) s = .next (refused .tooLong)) ∧
    (s.cliState = .idle → ¬rangeBad → ¬mixed → payload.length ≤ s.cfg.bufferSize →
      ∃ answered, (answered = true ↔ req.rr = true ∨ ∃ i ∈ req.subs, isRead i = true ∨ ∃ ch, pollChannel i = some ch) ∧
        handle (.request req) s = .next
          { s with
            cliReq := some
              { dest := req.dest, expectReply := answered, expectReads := req.subs.flatMap readsAsked
                expectTunnel := req.subs.findSome? pollChannel }
            cliResult := none, cliState := .send
            outputs := s.outputs ++ [.requestStatus .ok, .tx frame] })

/-- 45_client.md R226, R237 (decisions D42 and D53 of the spec): the end of a request's transmission, and giving up. -/
def Obligations.SentAndTimeoutResolve : Prop :=
  ∀ (s : State) (req : CliReq), s.cfg.role = .client →
    let bare := fun status => { status := status, reads := [], writeErrors := [], tunnel := none : CliResult }
    (s.cliState = .send → s.cliReq = some req →
      handle (.txDone false) s = .next (resolvedWith (bare .txFailed) s) ∧
      (req.expectReply = true → handle (.txDone true) s = .next { s with cliState := .await }) ∧
      (req.expectReply = false → handle (.txDone true) s = .next (resolvedWith (bare .sent) s))) ∧
    (s.cliState = .await → handle .timeout s =
      .next (resolvedWith (bare .timeout) { s with rxBytes := [], rxPay := [], rxPhase := .h0 })) ∧
    (s.cliState ≠ .await → handle .timeout s = .next s)

/-- 45_client.md R227, R228, R229 (decisions D16, D40 and D44 of the spec): the checks of a complete frame at a client, in
their order; a frame that fails one has no effect but its count. -/
def Obligations.ClientChecksInOrder : Prop :=
  ∀ (s : State) (b : Byte), s.cfg.role = .client → s.rxPhase = .crc1 →
    let t := { s with rxBytes := s.rxBytes ++ [b], rxCrc := setCrcHigh s.rxCrc b }
    let sumOk := frameCrc s.cfg.crc (t.rxBytes.take (t.rxBytes.length - 2)) = t.rxCrc
    (s.cliState ≠ .await →
      handle (.rxByte b) s = .next { t with rxBytes := [], rxPay := [], rxPhase := .h0 }) ∧
    (s.cliState = .await → ¬sumOk → handle (.rxByte b) s = .next (droppedFrame .checksumMismatch t)) ∧
    ∀ req, s.cliState = .await → s.cliReq = some req → sumOk →
      ((s.rxDst ≠ s.nodeId ∨ idByte (sourceId s.rxSrc) ≠ req.dest) →
        handle (.rxByte b) s = .next (droppedFrame .wrongId t)) ∧
      (s.rxDst = s.nodeId → idByte (sourceId s.rxSrc) = req.dest →
        (walkPayload .client s.cfg.bufferSize s.rxPay).1 = .malformed →
        handle (.rxByte b) s = .next (resolvedMalformed t))

/-- 45_client.md R234 (decision D41 of the spec). First, where every read entry is a value and no tunnel data is in play,
the entries cover the request exactly where they are the reads asked for in some order, and are malformed exactly where
they are not among them. Second, the loop, read errors included: an entry is matched with the first read it answers, and
is an extra where it answers none. Third, the tunnel half: unexpected data, data of another channel and data given twice
are malformed, and expected data that is absent is missing. -/
def Obligations.CoverageMatchesAsMultiset : Prop :=
  (∀ (req : CliReq) (m : Mentions) (entries : List (U32 × Value)), req.expectTunnel = none → m.tunnel = [] →
    m.reads = entries.map (fun e => .val e.1 e.2) →
    (coverage req m = .ok ↔ (entries.map fun e => (e.1, e.2.rep)).Perm req.expectReads) ∧
    (coverage req m = .malformed ↔ ¬(entries.map fun e => (e.1, e.2.rep)).Subperm req.expectReads)) ∧
  (∀ (req : CliReq) (m : Mentions), req.expectTunnel = none → m.tunnel = [] →
    (m.reads = [] → req.expectReads = [] → coverage req m = .ok) ∧
    (m.reads = [] → req.expectReads ≠ [] → coverage req m = .missing) ∧
    (∀ e more a p b, m.reads = e :: more → req.expectReads = a ++ p :: b → answersRead e p →
      (∀ x ∈ a, ¬answersRead e x) →
      coverage req m = coverage { req with expectReads := a ++ b } { m with reads := more }) ∧
    (∀ e more, m.reads = e :: more → (∀ x ∈ req.expectReads, ¬answersRead e x) → coverage req m = .malformed)) ∧
  ∀ (req : CliReq) (m : Mentions),
    let reads := coverage { req with expectTunnel := none } { m with tunnel := [] }
    (∀ ch bytes, req.expectTunnel = some ch → m.tunnel = [(ch, bytes)] → coverage req m = reads) ∧
    (m.tunnel ≠ [] → (∀ ch bytes, req.expectTunnel = some ch → m.tunnel ≠ [(ch, bytes)]) →
      coverage req m = .malformed) ∧
    (req.expectTunnel ≠ none → m.tunnel = [] → reads = .malformed → coverage req m = .malformed) ∧
    (req.expectTunnel ≠ none → m.tunnel = [] → reads ≠ .malformed → coverage req m = .missing)

/-- 45_client.md R234 to R236, 60_exceptions.md R256: the coverage check resolves the request in the same step, with a
malformed, a missing or a complete result and at most one count. -/
def Obligations.CoverageResolvesRequest : Prop :=
  ∀ (s : State) (req : CliReq), s.cfg.role = .client →
    let result := fun status => { status := status, reads := s.mentions.reads, writeErrors := s.mentions.writeErrors
                                  tunnel := s.mentions.tunnel.head? : CliResult }
    (coverage req s.mentions = .malformed ∧ conclude req s = resolvedMalformed s) ∨
    (coverage req s.mentions = .missing ∧
      conclude req s = resolvedWith (result .missing) { s with stats := s.stats.bump .missingSubframe }) ∨
    (coverage req s.mentions = .ok ∧ conclude req s = resolvedWith (result .ok) s)

/-! Errors, reset and the whole machine. -/

/-- 10_state.md R24 (saturation is decision D8 of the spec), 60_exceptions.md R250: taking an error of one kind adds one to
that counter, which stops at 2^32 - 1, and leaves the other counters. -/
def Obligations.ErrorCountsExactlyOne : Prop :=
  ∀ (s : State) (k j : ErrorKind),
    ((s.takeError k).stats.get k).toNat = min ((s.stats.get k).toNat + 1) (2 ^ 32 - 1) ∧
    (j ≠ k → (s.takeError k).stats.get j = s.stats.get j)

/-- 70_reset_and_hazards.md R280, 10_state.md R21: what reset leaves, for the values the spec gives. -/
def Obligations.ResetValues : Prop :=
  ∀ c : Config, c.wf = true →
    let s := State.resetWith c
    (∀ v, c.storedId = some v → s.nodeId.toNat = v.toNat % 128) ∧ (c.storedId = none → s.nodeId = c.defaultId) ∧
    (∀ k, s.stats.get k = 0#32) ∧ s.rxPhase = .h0 ∧ s.rxBytes = [] ∧ s.rxPay = [] ∧ s.srvState = .idle ∧
    s.accPayload = [] ∧ s.scanOutcome = .ok ∧ s.scanList = [] ∧ s.results = [] ∧ s.replyNeeded = false ∧
    s.replyPayload = [] ∧ s.txFrame = none ∧ s.cliState = .idle ∧ s.cliReq = none ∧ s.cliResult = none ∧
    (c.role = .server → s.slots.length = c.maxTunnelStreams) ∧
    ∀ sl ∈ s.slots, sl.bound = false ∧ sl.inFifo = [] ∧ sl.outFifo = []

/-- 70_reset_and_hazards.md R281: a reset input builds the instance anew in any state, drops what was under way, and
withdraws a frame that stood offered (that what lies outside the block stays is the model's, log entry 14). -/
def Obligations.ResetInputBuildsAnew : Prop :=
  ∀ (s : State) (stored : Option Byte),
    let fresh := State.resetWith { s.cfg with storedId := stored }
    let sending := (s.cfg.role = .server ∧ s.srvState = .send) ∨ (s.cfg.role = .client ∧ s.cliState = .send)
    ∃ withdrawn, (withdrawn = [.txWithdrawn] ↔ sending) ∧ (withdrawn = [] ↔ ¬sending) ∧
      handle (.reset stored) s = .next
        { fresh with inputs := s.inputs, answers := s.answers, serverCalls := s.serverCalls
                     outputs := s.outputs ++ withdrawn }

/-- The machine after reset, with any parameters in their ranges, has the invariant. -/
def Obligations.ResetHasInvariant : Prop :=
  ∀ c : Config, c.wf = true → (State.resetWith c).Inv

/-- 10_state.md R21, R27, R28, R30 to R33, R36, R37; 20_memory.md R67; 44_tunnel.md R210: every step keeps the invariant
(bit 7 of `NODE_ID` clear, buffers and FIFOs within their capacities, one slot for a channel, the phases and states in
step, a request record exactly while one is outstanding). -/
def Obligations.StepKeepsInvariant : Prop :=
  ∀ s t : State, s.Inv → step s = .next t → t.Inv

/-- 60_exceptions.md R258, 42_dispatcher.md R162: nothing stops the block. Every step answers a next state, and where no
event comes first a server does not rest in `VALIDATE`, `DISPATCH` or `COMPOSE`. -/
def Obligations.NothingStopsTheBlock : Prop :=
  ∀ s : State, ∃ t, step s = .next t ∧
    (s.cfg.role = .server → noEarlyEvent s →
      (s.srvState = .validate → t.srvState = .dispatch ∨ t.srvState = .idle) ∧
      (s.srvState = .dispatch → t.srvState = .compose ∨ t.srvState = .idle) ∧
      (s.srvState = .compose → t.srvState = .send ∨ t.srvState = .idle))

/-- 70_reset_and_hazards.md R281, 10_state.md R25, R33, 44_tunnel.md R210: without reset no counter goes down, and a bound
slot stays bound to its channel. -/
def Obligations.OnlyResetClears : Prop :=
  ∀ s t : State, noResetOffered s → step s = .next t →
    (∀ k, (s.stats.get k).toNat ≤ (t.stats.get k).toNat) ∧
    ∀ (j : Nat) (sl : Slot), s.slots[j]? = some sl → sl.bound = true →
      ∃ sl' : Slot, t.slots[j]? = some sl' ∧ sl'.bound = true ∧ sl'.chan = sl.chan

/-- 60_exceptions.md R260, 10_state.md R22, 70_reset_and_hazards.md R282: nothing on the wire reaches `NODE_ID`, and no step
changes a parameter (a reset input brings a new `STORED_ID`). -/
def Obligations.NodeIdIsNotReachableFromWire : Prop :=
  ∀ s t : State, step s = .next t →
    (noIdWriteOffered s → t.nodeId = s.nodeId) ∧ { t.cfg with storedId := s.cfg.storedId } = s.cfg ∧
      (noResetOffered s → t.cfg = s.cfg)

/-- 20_memory.md R51, R58, R60; 10_state.md R38: Server calls are made only by a server in `DISPATCH`. -/
def Obligations.ServerIsCalledOnlyInDispatch : Prop :=
  ∀ s t : State, step s = .next t → (s.cfg.role = .client ∨ s.srvState ≠ .dispatch) →
    t.serverCalls = s.serverCalls ∧ t.answers = s.answers

end Slice0Obligations
end

