-- ==== Sys2Proof/Laws/State.lean ====
section
/-! SUPPORT. What each named update of the state leaves in each field: one lemma per field per update, true by `rfl`. -/

namespace Sys2Proof.Machine

open Sys2Proof

/-! `State.emit`. -/

@[simp] theorem State.emit_cfg (s : State) (o : PortOutput) : (s.emit o).cfg = s.cfg := rfl

@[simp] theorem State.emit_nodeId (s : State) (o : PortOutput) : (s.emit o).nodeId = s.nodeId := rfl

@[simp] theorem State.emit_stats (s : State) (o : PortOutput) : (s.emit o).stats = s.stats := rfl

@[simp] theorem State.emit_rxPhase (s : State) (o : PortOutput) : (s.emit o).rxPhase = s.rxPhase := rfl

@[simp] theorem State.emit_rxBytes (s : State) (o : PortOutput) : (s.emit o).rxBytes = s.rxBytes := rfl

@[simp] theorem State.emit_rxSrc (s : State) (o : PortOutput) : (s.emit o).rxSrc = s.rxSrc := rfl

@[simp] theorem State.emit_rxDst (s : State) (o : PortOutput) : (s.emit o).rxDst = s.rxDst := rfl

@[simp] theorem State.emit_rxLen (s : State) (o : PortOutput) : (s.emit o).rxLen = s.rxLen := rfl

@[simp] theorem State.emit_rxLenN (s : State) (o : PortOutput) : (s.emit o).rxLenN = s.rxLenN := rfl

@[simp] theorem State.emit_rxPay (s : State) (o : PortOutput) : (s.emit o).rxPay = s.rxPay := rfl

@[simp] theorem State.emit_rxCrc (s : State) (o : PortOutput) : (s.emit o).rxCrc = s.rxCrc := rfl

@[simp] theorem State.emit_srvState (s : State) (o : PortOutput) : (s.emit o).srvState = s.srvState := rfl

@[simp] theorem State.emit_accSrcId (s : State) (o : PortOutput) : (s.emit o).accSrcId = s.accSrcId := rfl

@[simp] theorem State.emit_accRr (s : State) (o : PortOutput) : (s.emit o).accRr = s.accRr := rfl

@[simp] theorem State.emit_accDst (s : State) (o : PortOutput) : (s.emit o).accDst = s.accDst := rfl

@[simp] theorem State.emit_accPayload (s : State) (o : PortOutput) : (s.emit o).accPayload = s.accPayload := rfl

@[simp] theorem State.emit_scanOutcome (s : State) (o : PortOutput) : (s.emit o).scanOutcome = s.scanOutcome := rfl

@[simp] theorem State.emit_scanList (s : State) (o : PortOutput) : (s.emit o).scanList = s.scanList := rfl

@[simp] theorem State.emit_results (s : State) (o : PortOutput) : (s.emit o).results = s.results := rfl

@[simp] theorem State.emit_replyNeeded (s : State) (o : PortOutput) : (s.emit o).replyNeeded = s.replyNeeded := rfl

@[simp] theorem State.emit_replyPayload (s : State) (o : PortOutput) : (s.emit o).replyPayload = s.replyPayload := rfl

@[simp] theorem State.emit_txFrame (s : State) (o : PortOutput) : (s.emit o).txFrame = s.txFrame := rfl

@[simp] theorem State.emit_slots (s : State) (o : PortOutput) : (s.emit o).slots = s.slots := rfl

@[simp] theorem State.emit_cliState (s : State) (o : PortOutput) : (s.emit o).cliState = s.cliState := rfl

@[simp] theorem State.emit_cliReq (s : State) (o : PortOutput) : (s.emit o).cliReq = s.cliReq := rfl

@[simp] theorem State.emit_cliResult (s : State) (o : PortOutput) : (s.emit o).cliResult = s.cliResult := rfl

@[simp] theorem State.emit_mentions (s : State) (o : PortOutput) : (s.emit o).mentions = s.mentions := rfl

@[simp] theorem State.emit_inputs (s : State) (o : PortOutput) : (s.emit o).inputs = s.inputs := rfl

@[simp] theorem State.emit_answers (s : State) (o : PortOutput) : (s.emit o).answers = s.answers := rfl

@[simp] theorem State.emit_serverCalls (s : State) (o : PortOutput) : (s.emit o).serverCalls = s.serverCalls := rfl

@[simp] theorem State.emit_outputs (s : State) (o : PortOutput) : (s.emit o).outputs = s.outputs ++ [o] := rfl

/-! `State.count`. -/

@[simp] theorem State.count_cfg (s : State) (k : ErrorKind) : (s.count k).cfg = s.cfg := rfl

@[simp] theorem State.count_nodeId (s : State) (k : ErrorKind) : (s.count k).nodeId = s.nodeId := rfl

@[simp] theorem State.count_stats (s : State) (k : ErrorKind) : (s.count k).stats = s.stats.bump k := rfl

@[simp] theorem State.count_rxPhase (s : State) (k : ErrorKind) : (s.count k).rxPhase = s.rxPhase := rfl

@[simp] theorem State.count_rxBytes (s : State) (k : ErrorKind) : (s.count k).rxBytes = s.rxBytes := rfl

@[simp] theorem State.count_rxSrc (s : State) (k : ErrorKind) : (s.count k).rxSrc = s.rxSrc := rfl

@[simp] theorem State.count_rxDst (s : State) (k : ErrorKind) : (s.count k).rxDst = s.rxDst := rfl

@[simp] theorem State.count_rxLen (s : State) (k : ErrorKind) : (s.count k).rxLen = s.rxLen := rfl

@[simp] theorem State.count_rxLenN (s : State) (k : ErrorKind) : (s.count k).rxLenN = s.rxLenN := rfl

@[simp] theorem State.count_rxPay (s : State) (k : ErrorKind) : (s.count k).rxPay = s.rxPay := rfl

@[simp] theorem State.count_rxCrc (s : State) (k : ErrorKind) : (s.count k).rxCrc = s.rxCrc := rfl

@[simp] theorem State.count_srvState (s : State) (k : ErrorKind) : (s.count k).srvState = s.srvState := rfl

@[simp] theorem State.count_accSrcId (s : State) (k : ErrorKind) : (s.count k).accSrcId = s.accSrcId := rfl

@[simp] theorem State.count_accRr (s : State) (k : ErrorKind) : (s.count k).accRr = s.accRr := rfl

@[simp] theorem State.count_accDst (s : State) (k : ErrorKind) : (s.count k).accDst = s.accDst := rfl

@[simp] theorem State.count_accPayload (s : State) (k : ErrorKind) : (s.count k).accPayload = s.accPayload := rfl

@[simp] theorem State.count_scanOutcome (s : State) (k : ErrorKind) : (s.count k).scanOutcome = s.scanOutcome := rfl

@[simp] theorem State.count_scanList (s : State) (k : ErrorKind) : (s.count k).scanList = s.scanList := rfl

@[simp] theorem State.count_results (s : State) (k : ErrorKind) : (s.count k).results = s.results := rfl

@[simp] theorem State.count_replyNeeded (s : State) (k : ErrorKind) : (s.count k).replyNeeded = s.replyNeeded := rfl

@[simp] theorem State.count_replyPayload (s : State) (k : ErrorKind) : (s.count k).replyPayload = s.replyPayload := rfl

@[simp] theorem State.count_txFrame (s : State) (k : ErrorKind) : (s.count k).txFrame = s.txFrame := rfl

@[simp] theorem State.count_slots (s : State) (k : ErrorKind) : (s.count k).slots = s.slots := rfl

@[simp] theorem State.count_cliState (s : State) (k : ErrorKind) : (s.count k).cliState = s.cliState := rfl

@[simp] theorem State.count_cliReq (s : State) (k : ErrorKind) : (s.count k).cliReq = s.cliReq := rfl

@[simp] theorem State.count_cliResult (s : State) (k : ErrorKind) : (s.count k).cliResult = s.cliResult := rfl

@[simp] theorem State.count_mentions (s : State) (k : ErrorKind) : (s.count k).mentions = s.mentions := rfl

@[simp] theorem State.count_inputs (s : State) (k : ErrorKind) : (s.count k).inputs = s.inputs := rfl

@[simp] theorem State.count_answers (s : State) (k : ErrorKind) : (s.count k).answers = s.answers := rfl

@[simp] theorem State.count_serverCalls (s : State) (k : ErrorKind) : (s.count k).serverCalls = s.serverCalls := rfl

@[simp] theorem State.count_outputs (s : State) (k : ErrorKind) : (s.count k).outputs = s.outputs := rfl

/-! `State.discardFrame`. -/

@[simp] theorem State.discardFrame_cfg (s : State) : s.discardFrame.cfg = s.cfg := rfl

@[simp] theorem State.discardFrame_nodeId (s : State) : s.discardFrame.nodeId = s.nodeId := rfl

@[simp] theorem State.discardFrame_stats (s : State) : s.discardFrame.stats = s.stats := rfl

@[simp] theorem State.discardFrame_rxPhase (s : State) : s.discardFrame.rxPhase = .h0 := rfl

@[simp] theorem State.discardFrame_rxBytes (s : State) : s.discardFrame.rxBytes = [] := rfl

@[simp] theorem State.discardFrame_rxSrc (s : State) : s.discardFrame.rxSrc = s.rxSrc := rfl

@[simp] theorem State.discardFrame_rxDst (s : State) : s.discardFrame.rxDst = s.rxDst := rfl

@[simp] theorem State.discardFrame_rxLen (s : State) : s.discardFrame.rxLen = s.rxLen := rfl

@[simp] theorem State.discardFrame_rxLenN (s : State) : s.discardFrame.rxLenN = s.rxLenN := rfl

@[simp] theorem State.discardFrame_rxPay (s : State) : s.discardFrame.rxPay = [] := rfl

@[simp] theorem State.discardFrame_rxCrc (s : State) : s.discardFrame.rxCrc = s.rxCrc := rfl

@[simp] theorem State.discardFrame_srvState_server (s : State) (h : s.cfg.role = .server) :
    s.discardFrame.srvState = .idle := by
  simp [State.discardFrame, h]

@[simp] theorem State.discardFrame_srvState_client (s : State) (h : s.cfg.role = .client) :
    s.discardFrame.srvState = s.srvState := by
  simp [State.discardFrame, h]

@[simp] theorem State.discardFrame_accSrcId (s : State) : s.discardFrame.accSrcId = s.accSrcId := rfl

@[simp] theorem State.discardFrame_accRr (s : State) : s.discardFrame.accRr = s.accRr := rfl

@[simp] theorem State.discardFrame_accDst (s : State) : s.discardFrame.accDst = s.accDst := rfl

@[simp] theorem State.discardFrame_accPayload (s : State) : s.discardFrame.accPayload = s.accPayload := rfl

@[simp] theorem State.discardFrame_scanOutcome (s : State) : s.discardFrame.scanOutcome = s.scanOutcome := rfl

@[simp] theorem State.discardFrame_scanList (s : State) : s.discardFrame.scanList = s.scanList := rfl

@[simp] theorem State.discardFrame_results (s : State) : s.discardFrame.results = s.results := rfl

@[simp] theorem State.discardFrame_replyNeeded (s : State) : s.discardFrame.replyNeeded = s.replyNeeded := rfl

@[simp] theorem State.discardFrame_replyPayload (s : State) : s.discardFrame.replyPayload = s.replyPayload := rfl

@[simp] theorem State.discardFrame_txFrame (s : State) : s.discardFrame.txFrame = s.txFrame := rfl

@[simp] theorem State.discardFrame_slots (s : State) : s.discardFrame.slots = s.slots := rfl

@[simp] theorem State.discardFrame_cliState (s : State) : s.discardFrame.cliState = s.cliState := rfl

@[simp] theorem State.discardFrame_cliReq (s : State) : s.discardFrame.cliReq = s.cliReq := rfl

@[simp] theorem State.discardFrame_cliResult (s : State) : s.discardFrame.cliResult = s.cliResult := rfl

@[simp] theorem State.discardFrame_mentions (s : State) : s.discardFrame.mentions = s.mentions := rfl

@[simp] theorem State.discardFrame_inputs (s : State) : s.discardFrame.inputs = s.inputs := rfl

@[simp] theorem State.discardFrame_answers (s : State) : s.discardFrame.answers = s.answers := rfl

@[simp] theorem State.discardFrame_serverCalls (s : State) : s.discardFrame.serverCalls = s.serverCalls := rfl

@[simp] theorem State.discardFrame_outputs (s : State) : s.discardFrame.outputs = s.outputs := rfl

/-! `State.resolve`. -/

@[simp] theorem State.resolve_cfg (s : State) (r : CliResult) : (s.resolve r).cfg = s.cfg := rfl

@[simp] theorem State.resolve_nodeId (s : State) (r : CliResult) : (s.resolve r).nodeId = s.nodeId := rfl

@[simp] theorem State.resolve_stats (s : State) (r : CliResult) : (s.resolve r).stats = s.stats := rfl

@[simp] theorem State.resolve_rxPhase (s : State) (r : CliResult) : (s.resolve r).rxPhase = s.rxPhase := rfl

@[simp] theorem State.resolve_rxBytes (s : State) (r : CliResult) : (s.resolve r).rxBytes = s.rxBytes := rfl

@[simp] theorem State.resolve_rxSrc (s : State) (r : CliResult) : (s.resolve r).rxSrc = s.rxSrc := rfl

@[simp] theorem State.resolve_rxDst (s : State) (r : CliResult) : (s.resolve r).rxDst = s.rxDst := rfl

@[simp] theorem State.resolve_rxLen (s : State) (r : CliResult) : (s.resolve r).rxLen = s.rxLen := rfl

@[simp] theorem State.resolve_rxLenN (s : State) (r : CliResult) : (s.resolve r).rxLenN = s.rxLenN := rfl

@[simp] theorem State.resolve_rxPay (s : State) (r : CliResult) : (s.resolve r).rxPay = s.rxPay := rfl

@[simp] theorem State.resolve_rxCrc (s : State) (r : CliResult) : (s.resolve r).rxCrc = s.rxCrc := rfl

@[simp] theorem State.resolve_srvState (s : State) (r : CliResult) : (s.resolve r).srvState = s.srvState := rfl

@[simp] theorem State.resolve_accSrcId (s : State) (r : CliResult) : (s.resolve r).accSrcId = s.accSrcId := rfl

@[simp] theorem State.resolve_accRr (s : State) (r : CliResult) : (s.resolve r).accRr = s.accRr := rfl

@[simp] theorem State.resolve_accDst (s : State) (r : CliResult) : (s.resolve r).accDst = s.accDst := rfl

@[simp] theorem State.resolve_accPayload (s : State) (r : CliResult) : (s.resolve r).accPayload = s.accPayload := rfl

@[simp] theorem State.resolve_scanOutcome (s : State) (r : CliResult) : (s.resolve r).scanOutcome = s.scanOutcome := rfl

@[simp] theorem State.resolve_scanList (s : State) (r : CliResult) : (s.resolve r).scanList = s.scanList := rfl

@[simp] theorem State.resolve_results (s : State) (r : CliResult) : (s.resolve r).results = s.results := rfl

@[simp] theorem State.resolve_replyNeeded (s : State) (r : CliResult) : (s.resolve r).replyNeeded = s.replyNeeded := rfl

@[simp] theorem State.resolve_replyPayload (s : State) (r : CliResult) : (s.resolve r).replyPayload = s.replyPayload := rfl

@[simp] theorem State.resolve_txFrame (s : State) (r : CliResult) : (s.resolve r).txFrame = s.txFrame := rfl

@[simp] theorem State.resolve_slots (s : State) (r : CliResult) : (s.resolve r).slots = s.slots := rfl

@[simp] theorem State.resolve_cliState (s : State) (r : CliResult) : (s.resolve r).cliState = .idle := rfl

@[simp] theorem State.resolve_cliReq (s : State) (r : CliResult) : (s.resolve r).cliReq = none := rfl

@[simp] theorem State.resolve_cliResult (s : State) (r : CliResult) : (s.resolve r).cliResult = some r := rfl

@[simp] theorem State.resolve_mentions (s : State) (r : CliResult) : (s.resolve r).mentions = Mentions.empty := rfl

@[simp] theorem State.resolve_inputs (s : State) (r : CliResult) : (s.resolve r).inputs = s.inputs := rfl

@[simp] theorem State.resolve_answers (s : State) (r : CliResult) : (s.resolve r).answers = s.answers := rfl

@[simp] theorem State.resolve_serverCalls (s : State) (r : CliResult) : (s.resolve r).serverCalls = s.serverCalls := rfl

@[simp] theorem State.resolve_outputs (s : State) (r : CliResult) : (s.resolve r).outputs = s.outputs := rfl

/-! `State.afterCall`. -/

@[simp] theorem State.afterCall_cfg (s : State) (o : PortOutput) : (s.afterCall o).cfg = s.cfg := rfl

@[simp] theorem State.afterCall_nodeId (s : State) (o : PortOutput) : (s.afterCall o).nodeId = s.nodeId := rfl

@[simp] theorem State.afterCall_stats (s : State) (o : PortOutput) : (s.afterCall o).stats = s.stats := rfl

@[simp] theorem State.afterCall_rxPhase (s : State) (o : PortOutput) : (s.afterCall o).rxPhase = s.rxPhase := rfl

@[simp] theorem State.afterCall_rxBytes (s : State) (o : PortOutput) : (s.afterCall o).rxBytes = s.rxBytes := rfl

@[simp] theorem State.afterCall_rxSrc (s : State) (o : PortOutput) : (s.afterCall o).rxSrc = s.rxSrc := rfl

@[simp] theorem State.afterCall_rxDst (s : State) (o : PortOutput) : (s.afterCall o).rxDst = s.rxDst := rfl

@[simp] theorem State.afterCall_rxLen (s : State) (o : PortOutput) : (s.afterCall o).rxLen = s.rxLen := rfl

@[simp] theorem State.afterCall_rxLenN (s : State) (o : PortOutput) : (s.afterCall o).rxLenN = s.rxLenN := rfl

@[simp] theorem State.afterCall_rxPay (s : State) (o : PortOutput) : (s.afterCall o).rxPay = s.rxPay := rfl

@[simp] theorem State.afterCall_rxCrc (s : State) (o : PortOutput) : (s.afterCall o).rxCrc = s.rxCrc := rfl

@[simp] theorem State.afterCall_srvState (s : State) (o : PortOutput) : (s.afterCall o).srvState = s.srvState := rfl

@[simp] theorem State.afterCall_accSrcId (s : State) (o : PortOutput) : (s.afterCall o).accSrcId = s.accSrcId := rfl

@[simp] theorem State.afterCall_accRr (s : State) (o : PortOutput) : (s.afterCall o).accRr = s.accRr := rfl

@[simp] theorem State.afterCall_accDst (s : State) (o : PortOutput) : (s.afterCall o).accDst = s.accDst := rfl

@[simp] theorem State.afterCall_accPayload (s : State) (o : PortOutput) : (s.afterCall o).accPayload = s.accPayload := rfl

@[simp] theorem State.afterCall_scanOutcome (s : State) (o : PortOutput) : (s.afterCall o).scanOutcome = s.scanOutcome := rfl

@[simp] theorem State.afterCall_scanList (s : State) (o : PortOutput) : (s.afterCall o).scanList = s.scanList := rfl

@[simp] theorem State.afterCall_results (s : State) (o : PortOutput) : (s.afterCall o).results = s.results := rfl

@[simp] theorem State.afterCall_replyNeeded (s : State) (o : PortOutput) : (s.afterCall o).replyNeeded = s.replyNeeded := rfl

@[simp] theorem State.afterCall_replyPayload (s : State) (o : PortOutput) : (s.afterCall o).replyPayload = s.replyPayload := rfl

@[simp] theorem State.afterCall_txFrame (s : State) (o : PortOutput) : (s.afterCall o).txFrame = s.txFrame := rfl

@[simp] theorem State.afterCall_slots (s : State) (o : PortOutput) : (s.afterCall o).slots = s.slots := rfl

@[simp] theorem State.afterCall_cliState (s : State) (o : PortOutput) : (s.afterCall o).cliState = s.cliState := rfl

@[simp] theorem State.afterCall_cliReq (s : State) (o : PortOutput) : (s.afterCall o).cliReq = s.cliReq := rfl

@[simp] theorem State.afterCall_cliResult (s : State) (o : PortOutput) : (s.afterCall o).cliResult = s.cliResult := rfl

@[simp] theorem State.afterCall_mentions (s : State) (o : PortOutput) : (s.afterCall o).mentions = s.mentions := rfl

@[simp] theorem State.afterCall_inputs (s : State) (o : PortOutput) : (s.afterCall o).inputs = s.inputs := rfl

@[simp] theorem State.afterCall_answers (s : State) (o : PortOutput) : (s.afterCall o).answers = s.answers.tail := rfl

@[simp] theorem State.afterCall_serverCalls (s : State) (o : PortOutput) : (s.afterCall o).serverCalls = s.serverCalls + 1 := rfl

@[simp] theorem State.afterCall_outputs (s : State) (o : PortOutput) : (s.afterCall o).outputs = s.outputs ++ [o] := rfl

/-! `State.addResult`. -/

@[simp] theorem State.addResult_cfg (s : State) (r : ResultRec) : (s.addResult r).cfg = s.cfg := rfl

@[simp] theorem State.addResult_nodeId (s : State) (r : ResultRec) : (s.addResult r).nodeId = s.nodeId := rfl

@[simp] theorem State.addResult_stats (s : State) (r : ResultRec) : (s.addResult r).stats = s.stats := rfl

@[simp] theorem State.addResult_rxPhase (s : State) (r : ResultRec) : (s.addResult r).rxPhase = s.rxPhase := rfl

@[simp] theorem State.addResult_rxBytes (s : State) (r : ResultRec) : (s.addResult r).rxBytes = s.rxBytes := rfl

@[simp] theorem State.addResult_rxSrc (s : State) (r : ResultRec) : (s.addResult r).rxSrc = s.rxSrc := rfl

@[simp] theorem State.addResult_rxDst (s : State) (r : ResultRec) : (s.addResult r).rxDst = s.rxDst := rfl

@[simp] theorem State.addResult_rxLen (s : State) (r : ResultRec) : (s.addResult r).rxLen = s.rxLen := rfl

@[simp] theorem State.addResult_rxLenN (s : State) (r : ResultRec) : (s.addResult r).rxLenN = s.rxLenN := rfl

@[simp] theorem State.addResult_rxPay (s : State) (r : ResultRec) : (s.addResult r).rxPay = s.rxPay := rfl

@[simp] theorem State.addResult_rxCrc (s : State) (r : ResultRec) : (s.addResult r).rxCrc = s.rxCrc := rfl

@[simp] theorem State.addResult_srvState (s : State) (r : ResultRec) : (s.addResult r).srvState = s.srvState := rfl

@[simp] theorem State.addResult_accSrcId (s : State) (r : ResultRec) : (s.addResult r).accSrcId = s.accSrcId := rfl

@[simp] theorem State.addResult_accRr (s : State) (r : ResultRec) : (s.addResult r).accRr = s.accRr := rfl

@[simp] theorem State.addResult_accDst (s : State) (r : ResultRec) : (s.addResult r).accDst = s.accDst := rfl

@[simp] theorem State.addResult_accPayload (s : State) (r : ResultRec) : (s.addResult r).accPayload = s.accPayload := rfl

@[simp] theorem State.addResult_scanOutcome (s : State) (r : ResultRec) : (s.addResult r).scanOutcome = s.scanOutcome := rfl

@[simp] theorem State.addResult_scanList (s : State) (r : ResultRec) : (s.addResult r).scanList = s.scanList := rfl

@[simp] theorem State.addResult_results (s : State) (r : ResultRec) : (s.addResult r).results = s.results ++ [r] := rfl

@[simp] theorem State.addResult_replyNeeded (s : State) (r : ResultRec) : (s.addResult r).replyNeeded = s.replyNeeded := rfl

@[simp] theorem State.addResult_replyPayload (s : State) (r : ResultRec) : (s.addResult r).replyPayload = s.replyPayload := rfl

@[simp] theorem State.addResult_txFrame (s : State) (r : ResultRec) : (s.addResult r).txFrame = s.txFrame := rfl

@[simp] theorem State.addResult_slots (s : State) (r : ResultRec) : (s.addResult r).slots = s.slots := rfl

@[simp] theorem State.addResult_cliState (s : State) (r : ResultRec) : (s.addResult r).cliState = s.cliState := rfl

@[simp] theorem State.addResult_cliReq (s : State) (r : ResultRec) : (s.addResult r).cliReq = s.cliReq := rfl

@[simp] theorem State.addResult_cliResult (s : State) (r : ResultRec) : (s.addResult r).cliResult = s.cliResult := rfl

@[simp] theorem State.addResult_mentions (s : State) (r : ResultRec) : (s.addResult r).mentions = s.mentions := rfl

@[simp] theorem State.addResult_inputs (s : State) (r : ResultRec) : (s.addResult r).inputs = s.inputs := rfl

@[simp] theorem State.addResult_answers (s : State) (r : ResultRec) : (s.addResult r).answers = s.answers := rfl

@[simp] theorem State.addResult_serverCalls (s : State) (r : ResultRec) : (s.addResult r).serverCalls = s.serverCalls := rfl

@[simp] theorem State.addResult_outputs (s : State) (r : ResultRec) : (s.addResult r).outputs = s.outputs := rfl

/-! `State.addMentions`. -/

@[simp] theorem State.addMentions_cfg (s : State) (m : Mentions) : (s.addMentions m).cfg = s.cfg := rfl

@[simp] theorem State.addMentions_nodeId (s : State) (m : Mentions) : (s.addMentions m).nodeId = s.nodeId := rfl

@[simp] theorem State.addMentions_stats (s : State) (m : Mentions) : (s.addMentions m).stats = s.stats := rfl

@[simp] theorem State.addMentions_rxPhase (s : State) (m : Mentions) : (s.addMentions m).rxPhase = s.rxPhase := rfl

@[simp] theorem State.addMentions_rxBytes (s : State) (m : Mentions) : (s.addMentions m).rxBytes = s.rxBytes := rfl

@[simp] theorem State.addMentions_rxSrc (s : State) (m : Mentions) : (s.addMentions m).rxSrc = s.rxSrc := rfl

@[simp] theorem State.addMentions_rxDst (s : State) (m : Mentions) : (s.addMentions m).rxDst = s.rxDst := rfl

@[simp] theorem State.addMentions_rxLen (s : State) (m : Mentions) : (s.addMentions m).rxLen = s.rxLen := rfl

@[simp] theorem State.addMentions_rxLenN (s : State) (m : Mentions) : (s.addMentions m).rxLenN = s.rxLenN := rfl

@[simp] theorem State.addMentions_rxPay (s : State) (m : Mentions) : (s.addMentions m).rxPay = s.rxPay := rfl

@[simp] theorem State.addMentions_rxCrc (s : State) (m : Mentions) : (s.addMentions m).rxCrc = s.rxCrc := rfl

@[simp] theorem State.addMentions_srvState (s : State) (m : Mentions) : (s.addMentions m).srvState = s.srvState := rfl

@[simp] theorem State.addMentions_accSrcId (s : State) (m : Mentions) : (s.addMentions m).accSrcId = s.accSrcId := rfl

@[simp] theorem State.addMentions_accRr (s : State) (m : Mentions) : (s.addMentions m).accRr = s.accRr := rfl

@[simp] theorem State.addMentions_accDst (s : State) (m : Mentions) : (s.addMentions m).accDst = s.accDst := rfl

@[simp] theorem State.addMentions_accPayload (s : State) (m : Mentions) : (s.addMentions m).accPayload = s.accPayload := rfl

@[simp] theorem State.addMentions_scanOutcome (s : State) (m : Mentions) : (s.addMentions m).scanOutcome = s.scanOutcome := rfl

@[simp] theorem State.addMentions_scanList (s : State) (m : Mentions) : (s.addMentions m).scanList = s.scanList := rfl

@[simp] theorem State.addMentions_results (s : State) (m : Mentions) : (s.addMentions m).results = s.results := rfl

@[simp] theorem State.addMentions_replyNeeded (s : State) (m : Mentions) : (s.addMentions m).replyNeeded = s.replyNeeded := rfl

@[simp] theorem State.addMentions_replyPayload (s : State) (m : Mentions) : (s.addMentions m).replyPayload = s.replyPayload := rfl

@[simp] theorem State.addMentions_txFrame (s : State) (m : Mentions) : (s.addMentions m).txFrame = s.txFrame := rfl

@[simp] theorem State.addMentions_slots (s : State) (m : Mentions) : (s.addMentions m).slots = s.slots := rfl

@[simp] theorem State.addMentions_cliState (s : State) (m : Mentions) : (s.addMentions m).cliState = s.cliState := rfl

@[simp] theorem State.addMentions_cliReq (s : State) (m : Mentions) : (s.addMentions m).cliReq = s.cliReq := rfl

@[simp] theorem State.addMentions_cliResult (s : State) (m : Mentions) : (s.addMentions m).cliResult = s.cliResult := rfl

@[simp] theorem State.addMentions_mentions (s : State) (m : Mentions) :
    (s.addMentions m).mentions =
      { reads := s.mentions.reads ++ m.reads, writeErrors := s.mentions.writeErrors ++ m.writeErrors,
        tunnel := s.mentions.tunnel ++ m.tunnel } := rfl

@[simp] theorem State.addMentions_inputs (s : State) (m : Mentions) : (s.addMentions m).inputs = s.inputs := rfl

@[simp] theorem State.addMentions_answers (s : State) (m : Mentions) : (s.addMentions m).answers = s.answers := rfl

@[simp] theorem State.addMentions_serverCalls (s : State) (m : Mentions) : (s.addMentions m).serverCalls = s.serverCalls := rfl

@[simp] theorem State.addMentions_outputs (s : State) (m : Mentions) : (s.addMentions m).outputs = s.outputs := rfl

/-! `State.serverGoes`. -/

@[simp] theorem State.serverGoes_cfg (s : State) (v : SrvState) : (s.serverGoes v).cfg = s.cfg := rfl

@[simp] theorem State.serverGoes_nodeId (s : State) (v : SrvState) : (s.serverGoes v).nodeId = s.nodeId := rfl

@[simp] theorem State.serverGoes_stats (s : State) (v : SrvState) : (s.serverGoes v).stats = s.stats := rfl

@[simp] theorem State.serverGoes_rxPhase (s : State) (v : SrvState) : (s.serverGoes v).rxPhase = s.rxPhase := rfl

@[simp] theorem State.serverGoes_rxBytes (s : State) (v : SrvState) : (s.serverGoes v).rxBytes = s.rxBytes := rfl

@[simp] theorem State.serverGoes_rxSrc (s : State) (v : SrvState) : (s.serverGoes v).rxSrc = s.rxSrc := rfl

@[simp] theorem State.serverGoes_rxDst (s : State) (v : SrvState) : (s.serverGoes v).rxDst = s.rxDst := rfl

@[simp] theorem State.serverGoes_rxLen (s : State) (v : SrvState) : (s.serverGoes v).rxLen = s.rxLen := rfl

@[simp] theorem State.serverGoes_rxLenN (s : State) (v : SrvState) : (s.serverGoes v).rxLenN = s.rxLenN := rfl

@[simp] theorem State.serverGoes_rxPay (s : State) (v : SrvState) : (s.serverGoes v).rxPay = s.rxPay := rfl

@[simp] theorem State.serverGoes_rxCrc (s : State) (v : SrvState) : (s.serverGoes v).rxCrc = s.rxCrc := rfl

@[simp] theorem State.serverGoes_srvState_server (s : State) (v : SrvState) (h : s.cfg.role = .server) :
    (s.serverGoes v).srvState = v := by
  simp [State.serverGoes, h]

@[simp] theorem State.serverGoes_srvState_client (s : State) (v : SrvState) (h : s.cfg.role = .client) :
    (s.serverGoes v).srvState = s.srvState := by
  simp [State.serverGoes, h]

@[simp] theorem State.serverGoes_accSrcId (s : State) (v : SrvState) : (s.serverGoes v).accSrcId = s.accSrcId := rfl

@[simp] theorem State.serverGoes_accRr (s : State) (v : SrvState) : (s.serverGoes v).accRr = s.accRr := rfl

@[simp] theorem State.serverGoes_accDst (s : State) (v : SrvState) : (s.serverGoes v).accDst = s.accDst := rfl

@[simp] theorem State.serverGoes_accPayload (s : State) (v : SrvState) : (s.serverGoes v).accPayload = s.accPayload := rfl

@[simp] theorem State.serverGoes_scanOutcome (s : State) (v : SrvState) : (s.serverGoes v).scanOutcome = s.scanOutcome := rfl

@[simp] theorem State.serverGoes_scanList (s : State) (v : SrvState) : (s.serverGoes v).scanList = s.scanList := rfl

@[simp] theorem State.serverGoes_results (s : State) (v : SrvState) : (s.serverGoes v).results = s.results := rfl

@[simp] theorem State.serverGoes_replyNeeded (s : State) (v : SrvState) : (s.serverGoes v).replyNeeded = s.replyNeeded := rfl

@[simp] theorem State.serverGoes_replyPayload (s : State) (v : SrvState) : (s.serverGoes v).replyPayload = s.replyPayload := rfl

@[simp] theorem State.serverGoes_txFrame (s : State) (v : SrvState) : (s.serverGoes v).txFrame = s.txFrame := rfl

@[simp] theorem State.serverGoes_slots (s : State) (v : SrvState) : (s.serverGoes v).slots = s.slots := rfl

@[simp] theorem State.serverGoes_cliState (s : State) (v : SrvState) : (s.serverGoes v).cliState = s.cliState := rfl

@[simp] theorem State.serverGoes_cliReq (s : State) (v : SrvState) : (s.serverGoes v).cliReq = s.cliReq := rfl

@[simp] theorem State.serverGoes_cliResult (s : State) (v : SrvState) : (s.serverGoes v).cliResult = s.cliResult := rfl

@[simp] theorem State.serverGoes_mentions (s : State) (v : SrvState) : (s.serverGoes v).mentions = s.mentions := rfl

@[simp] theorem State.serverGoes_inputs (s : State) (v : SrvState) : (s.serverGoes v).inputs = s.inputs := rfl

@[simp] theorem State.serverGoes_answers (s : State) (v : SrvState) : (s.serverGoes v).answers = s.answers := rfl

@[simp] theorem State.serverGoes_serverCalls (s : State) (v : SrvState) : (s.serverGoes v).serverCalls = s.serverCalls := rfl

@[simp] theorem State.serverGoes_outputs (s : State) (v : SrvState) : (s.serverGoes v).outputs = s.outputs := rfl

/-! `State.clearWork`. -/

@[simp] theorem State.clearWork_cfg (s : State) : s.clearWork.cfg = s.cfg := rfl

@[simp] theorem State.clearWork_nodeId (s : State) : s.clearWork.nodeId = s.nodeId := rfl

@[simp] theorem State.clearWork_stats (s : State) : s.clearWork.stats = s.stats := rfl

@[simp] theorem State.clearWork_rxPhase (s : State) : s.clearWork.rxPhase = s.rxPhase := rfl

@[simp] theorem State.clearWork_rxBytes (s : State) : s.clearWork.rxBytes = s.rxBytes := rfl

@[simp] theorem State.clearWork_rxSrc (s : State) : s.clearWork.rxSrc = s.rxSrc := rfl

@[simp] theorem State.clearWork_rxDst (s : State) : s.clearWork.rxDst = s.rxDst := rfl

@[simp] theorem State.clearWork_rxLen (s : State) : s.clearWork.rxLen = s.rxLen := rfl

@[simp] theorem State.clearWork_rxLenN (s : State) : s.clearWork.rxLenN = s.rxLenN := rfl

@[simp] theorem State.clearWork_rxPay (s : State) : s.clearWork.rxPay = s.rxPay := rfl

@[simp] theorem State.clearWork_rxCrc (s : State) : s.clearWork.rxCrc = s.rxCrc := rfl

@[simp] theorem State.clearWork_srvState (s : State) : s.clearWork.srvState = s.srvState := rfl

@[simp] theorem State.clearWork_accSrcId (s : State) : s.clearWork.accSrcId = s.accSrcId := rfl

@[simp] theorem State.clearWork_accRr (s : State) : s.clearWork.accRr = s.accRr := rfl

@[simp] theorem State.clearWork_accDst (s : State) : s.clearWork.accDst = s.accDst := rfl

@[simp] theorem State.clearWork_accPayload (s : State) : s.clearWork.accPayload = s.accPayload := rfl

@[simp] theorem State.clearWork_scanOutcome (s : State) : s.clearWork.scanOutcome = .ok := rfl

@[simp] theorem State.clearWork_scanList (s : State) : s.clearWork.scanList = [] := rfl

@[simp] theorem State.clearWork_results (s : State) : s.clearWork.results = [] := rfl

@[simp] theorem State.clearWork_replyNeeded (s : State) : s.clearWork.replyNeeded = false := rfl

@[simp] theorem State.clearWork_replyPayload (s : State) : s.clearWork.replyPayload = [] := rfl

@[simp] theorem State.clearWork_txFrame (s : State) : s.clearWork.txFrame = none := rfl

@[simp] theorem State.clearWork_slots (s : State) : s.clearWork.slots = s.slots := rfl

@[simp] theorem State.clearWork_cliState (s : State) : s.clearWork.cliState = s.cliState := rfl

@[simp] theorem State.clearWork_cliReq (s : State) : s.clearWork.cliReq = s.cliReq := rfl

@[simp] theorem State.clearWork_cliResult (s : State) : s.clearWork.cliResult = s.cliResult := rfl

@[simp] theorem State.clearWork_mentions (s : State) : s.clearWork.mentions = s.mentions := rfl

@[simp] theorem State.clearWork_inputs (s : State) : s.clearWork.inputs = s.inputs := rfl

@[simp] theorem State.clearWork_answers (s : State) : s.clearWork.answers = s.answers := rfl

@[simp] theorem State.clearWork_serverCalls (s : State) : s.clearWork.serverCalls = s.serverCalls := rfl

@[simp] theorem State.clearWork_outputs (s : State) : s.clearWork.outputs = s.outputs := rfl

end Sys2Proof.Machine
end

