-- ==== Sys2Proof/Laws/Ops.lean ====
section
/-! SUPPORT. What each shared operation can do, said once: counters, taking an error, the Server port and its loops, the
tunnel slots. -/

namespace Sys2Proof.Machine

open Sys2Proof

/-! Counters. -/

/-- A counter goes up by one and stops at 2^32 - 1. -/
theorem satInc_toNat (c : U32) : (satInc c).toNat = min (c.toNat + 1) (2 ^ 32 - 1) := by
  have := c.isLt
  simp only [satInc, BitVec.toNat_ofNat]
  omega

/-- A counter never goes down. -/
theorem le_satInc (c : U32) : c.toNat ≤ (satInc c).toNat := by
  have := c.isLt
  rw [satInc_toNat]
  omega

/-- Counting one kind changes that counter alone. -/
theorem Stats.get_bump (st : Stats) (k j : ErrorKind) :
    (st.bump k).get j = if j = k then satInc (st.get k) else st.get j := by
  cases k <;> cases j <;> rfl

/-! Taking an error. -/

theorem State.takeError_stats (s : State) (k : ErrorKind) : (s.takeError k).stats = s.stats.bump k := by
  cases k <;> cases h : s.cfg.role <;> simp [State.takeError, h]

/-- The malformed payload of a server. -/
theorem State.takeError_malformed_server (s : State) (h : s.cfg.role = .server) :
    s.takeError .malformedSubframe = onlyCountedMalformed s := by
  simp [State.takeError, h, onlyCountedMalformed, State.count, State.discardFrame, Stats.bump]

/-- The malformed reply of a client. -/
theorem State.takeError_malformed_client (s : State) (h : s.cfg.role = .client) :
    s.takeError .malformedSubframe = resolvedMalformed s := by
  simp [State.takeError, h, resolvedMalformed, State.count, State.discardFrame, Stats.bump, State.resolve,
    CliResult.bare]

/-! What no error changes. -/

@[simp] theorem State.takeError_cfg (s : State) (k : ErrorKind) : (s.takeError k).cfg = s.cfg := by
  cases k <;> cases h : s.cfg.role <;> simp [State.takeError, h]

@[simp] theorem State.takeError_nodeId (s : State) (k : ErrorKind) : (s.takeError k).nodeId = s.nodeId := by
  cases k <;> cases h : s.cfg.role <;> simp [State.takeError, h]

@[simp] theorem State.takeError_rxSrc (s : State) (k : ErrorKind) : (s.takeError k).rxSrc = s.rxSrc := by
  cases k <;> cases h : s.cfg.role <;> simp [State.takeError, h]

@[simp] theorem State.takeError_rxDst (s : State) (k : ErrorKind) : (s.takeError k).rxDst = s.rxDst := by
  cases k <;> cases h : s.cfg.role <;> simp [State.takeError, h]

@[simp] theorem State.takeError_rxLen (s : State) (k : ErrorKind) : (s.takeError k).rxLen = s.rxLen := by
  cases k <;> cases h : s.cfg.role <;> simp [State.takeError, h]

@[simp] theorem State.takeError_rxLenN (s : State) (k : ErrorKind) : (s.takeError k).rxLenN = s.rxLenN := by
  cases k <;> cases h : s.cfg.role <;> simp [State.takeError, h]

@[simp] theorem State.takeError_rxCrc (s : State) (k : ErrorKind) : (s.takeError k).rxCrc = s.rxCrc := by
  cases k <;> cases h : s.cfg.role <;> simp [State.takeError, h]

@[simp] theorem State.takeError_accSrcId (s : State) (k : ErrorKind) : (s.takeError k).accSrcId = s.accSrcId := by
  cases k <;> cases h : s.cfg.role <;> simp [State.takeError, h]

@[simp] theorem State.takeError_accRr (s : State) (k : ErrorKind) : (s.takeError k).accRr = s.accRr := by
  cases k <;> cases h : s.cfg.role <;> simp [State.takeError, h]

@[simp] theorem State.takeError_accDst (s : State) (k : ErrorKind) : (s.takeError k).accDst = s.accDst := by
  cases k <;> cases h : s.cfg.role <;> simp [State.takeError, h]

@[simp] theorem State.takeError_accPayload (s : State) (k : ErrorKind) : (s.takeError k).accPayload = s.accPayload := by
  cases k <;> cases h : s.cfg.role <;> simp [State.takeError, h]

@[simp] theorem State.takeError_results (s : State) (k : ErrorKind) : (s.takeError k).results = s.results := by
  cases k <;> cases h : s.cfg.role <;> simp [State.takeError, h]

@[simp] theorem State.takeError_replyNeeded (s : State) (k : ErrorKind) : (s.takeError k).replyNeeded = s.replyNeeded := by
  cases k <;> cases h : s.cfg.role <;> simp [State.takeError, h]

@[simp] theorem State.takeError_replyPayload (s : State) (k : ErrorKind) : (s.takeError k).replyPayload = s.replyPayload := by
  cases k <;> cases h : s.cfg.role <;> simp [State.takeError, h]

@[simp] theorem State.takeError_txFrame (s : State) (k : ErrorKind) : (s.takeError k).txFrame = s.txFrame := by
  cases k <;> cases h : s.cfg.role <;> simp [State.takeError, h]

@[simp] theorem State.takeError_slots (s : State) (k : ErrorKind) : (s.takeError k).slots = s.slots := by
  cases k <;> cases h : s.cfg.role <;> simp [State.takeError, h]

@[simp] theorem State.takeError_inputs (s : State) (k : ErrorKind) : (s.takeError k).inputs = s.inputs := by
  cases k <;> cases h : s.cfg.role <;> simp [State.takeError, h]

@[simp] theorem State.takeError_answers (s : State) (k : ErrorKind) : (s.takeError k).answers = s.answers := by
  cases k <;> cases h : s.cfg.role <;> simp [State.takeError, h]

@[simp] theorem State.takeError_serverCalls (s : State) (k : ErrorKind) : (s.takeError k).serverCalls = s.serverCalls := by
  cases k <;> cases h : s.cfg.role <;> simp [State.takeError, h]

@[simp] theorem State.takeError_outputs (s : State) (k : ErrorKind) : (s.takeError k).outputs = s.outputs := by
  cases k <;> cases h : s.cfg.role <;> simp [State.takeError, h]

/-! The Server port. -/

@[simp] theorem State.memWrite_fst (s : State) (reg : U32) (v : Value) :
    (s.memWrite reg v).1 = (s.nextAnswer (.write reg v)).code := rfl

@[simp] theorem State.memWrite_snd (s : State) (reg : U32) (v : Value) :
    (s.memWrite reg v).2 = s.afterCall (.memWrite reg v (s.nextAnswer (.write reg v)).code) := rfl

@[simp] theorem State.memRead_fst (s : State) (reg : U32) (rep : Rep) :
    (s.memRead reg rep).1 = readAnswerOf rep (s.nextAnswer (.read reg rep)) := rfl

@[simp] theorem State.memRead_snd (s : State) (reg : U32) (rep : Rep) :
    (s.memRead reg rep).2 =
      s.afterCall (.memRead reg rep (readAnswerOf rep (s.nextAnswer (.read reg rep)))) := rfl

/-- The next answer is the answer to the call numbered 0 from here. -/
theorem State.nextAnswer_eq (s : State) (c : ServerCall) : s.nextAnswer c = answerAt s 0 c := by
  unfold State.nextAnswer answerAt
  cases s.answers <;> simp

/-- After one call, the answers are numbered one further. -/
theorem answerAt_afterCall (s : State) (o : PortOutput) (i : Nat) (c : ServerCall) :
    answerAt (s.afterCall o) i c = answerAt s (i + 1) c := by
  unfold answerAt
  simp only [State.afterCall_answers, State.afterCall_serverCalls, List.getElem?_tail]
  cases s.answers[i + 1]? with
  | some a => rfl
  | none => simp only [Nat.add_assoc, Nat.add_comm 1 i]

@[simp] theorem regAt_zero (start : U32) : regAt start 0 = start := by
  simp [regAt]

theorem regAt_succ (start : U32) (i : Nat) : regAt (start + 1#32) i = regAt start (i + 1) := by
  unfold regAt
  rw [BitVec.add_assoc, ← BitVec.ofNat_add, Nat.add_comm]

/-- Inside a well-formed range the registers do not wrap. -/
theorem regAt_toNat (start : U32) (i : Nat) (h : start.toNat + i < 2 ^ 32) :
    (regAt start i).toNat = start.toNat + i := by
  simp only [regAt, BitVec.toNat_add, BitVec.toNat_ofNat]
  omega

/-- The registers of a multiple form, `start` first. -/
theorem withRegs_eq (vs : List Value) : ∀ start, withRegs start vs = vs.mapIdx fun i v => (regAt start i, v) := by
  induction vs with
  | nil => intro _; rfl
  | cons v vs ih =>
    intro start
    simp only [withRegs, ih, List.mapIdx_cons, regAt_zero, regAt_succ]

theorem regRange_eq (n : Nat) : ∀ start, regRange start n = (List.range n).map (regAt start) := by
  induction n with
  | zero => intro _; rfl
  | succ n ih =>
    intro start
    simp only [regRange, ih, List.range_succ_eq_map, List.map_cons, regAt_zero, List.map_map, List.cons.injEq,
      true_and]
    exact List.map_congr_left fun i _ => regAt_succ start i

theorem writeCode_afterCall (s : State) (o : PortOutput) (start : U32) (i : Nat) (v : Value) :
    writeCode (s.afterCall o) (start + 1#32) i v = writeCode s start (i + 1) v := by
  unfold writeCode
  rw [answerAt_afterCall, regAt_succ]

theorem writeCalls_cons (s : State) (start : U32) (v : Value) (vs : List Value) :
    writeCalls s start (v :: vs) =
      .memWrite start v (writeCode s start 0 v) ::
        writeCalls (s.afterCall (.memWrite start v (writeCode s start 0 v))) (start + 1#32) vs := by
  simp only [writeCalls, List.mapIdx_cons, regAt_zero, writeCode_afterCall, regAt_succ]

theorem writeFailures_cons (s : State) (o : PortOutput) (start : U32) (v : Value) (vs : List Value) :
    writeFailures s start (v :: vs) =
      if writeCode s start 0 v = 0#32 then writeFailures (s.afterCall o) (start + 1#32) vs
      else (start, writeCode s start 0 v) :: writeFailures (s.afterCall o) (start + 1#32) vs := by
  simp only [writeFailures, List.mapIdx_cons, regAt_zero, writeCode_afterCall, regAt_succ, List.filter_cons]
  split <;> simp_all

/-- `afterCalls` one call at a time, without the result record. -/
theorem afterCalls_cons (s : State) (o : PortOutput) (os : List PortOutput) (r : ResultRec) :
    afterCalls s (o :: os) r = afterCalls (s.afterCall o) os r := by
  simp only [afterCalls, State.afterCall, List.length_cons, List.append_assoc,
    List.cons_append, List.nil_append, Nat.add_assoc, Nat.add_comm 1 os.length, State.mk.injEq, and_true, true_and]
  rw [← List.drop_one, List.drop_drop, Nat.add_comm]

/-- A loop of writes: every register is written once, in order, and the failures are returned. -/
theorem writeAll_spec (vs : List Value) : ∀ (start : U32) (s : State),
    (writeAll (withRegs start vs) s).1 = writeFailures s start vs ∧
      ∀ r, (writeAll (withRegs start vs) s).2.addResult r = afterCalls s (writeCalls s start vs) r := by
  induction vs with
  | nil =>
    intro start s
    simp [withRegs, writeAll, writeFailures, writeCalls, afterCalls, State.addResult]
  | cons v vs ih =>
    intro start s
    have hc : (s.nextAnswer (.write start v)).code = writeCode s start 0 v := by
      rw [State.nextAnswer_eq, writeCode, regAt_zero]
    obtain ⟨h1, h2⟩ := ih (start + 1#32) (s.afterCall (.memWrite start v (writeCode s start 0 v)))
    simp only [withRegs, writeAll, State.memWrite_fst, State.memWrite_snd, hc]
    refine ⟨?_, fun r => ?_⟩
    · rw [h1]
      exact (writeFailures_cons ..).symm
    · rw [h2, writeCalls_cons, afterCalls_cons]

theorem readAt_afterCall (s : State) (o : PortOutput) (rep : Rep) (start : U32) (i : Nat) :
    readAt (s.afterCall o) rep (start + 1#32) i = readAt s rep start (i + 1) := by
  unfold readAt
  rw [answerAt_afterCall, regAt_succ]

theorem readCalls_succ (s : State) (rep : Rep) (start : U32) (n : Nat) :
    readCalls s rep start (n + 1) =
      .memRead start rep (readAt s rep start 0) ::
        readCalls (s.afterCall (.memRead start rep (readAt s rep start 0))) rep (start + 1#32) n := by
  simp only [readCalls, List.range_succ_eq_map, List.map_cons, regAt_zero, List.map_map, List.cons.injEq, true_and]
  exact List.map_congr_left fun i _ => by simp only [Function.comp, readAt_afterCall, regAt_succ]

theorem readEntries_succ (s : State) (o : PortOutput) (rep : Rep) (start : U32) (n : Nat) :
    readEntries s rep start (n + 1) =
      (start, readAt s rep start 0) :: readEntries (s.afterCall o) rep (start + 1#32) n := by
  simp only [readEntries, List.range_succ_eq_map, List.map_cons, regAt_zero, List.map_map, List.cons.injEq, true_and]
  exact List.map_congr_left fun i _ => by simp only [Function.comp, readAt_afterCall, regAt_succ]

/-- A loop of reads: every register is read once, in order, and the answers are returned. -/
theorem readAll_spec (rep : Rep) (n : Nat) : ∀ (start : U32) (s : State),
    (readAll rep (regRange start n) s).1 = readEntries s rep start n ∧
      ∀ r, (readAll rep (regRange start n) s).2.addResult r = afterCalls s (readCalls s rep start n) r := by
  induction n with
  | zero =>
    intro start s
    simp [regRange, readAll, readEntries, readCalls, afterCalls, State.addResult]
  | succ n ih =>
    intro start s
    have hx : readAnswerOf rep (s.nextAnswer (.read start rep)) = readAt s rep start 0 := by
      rw [State.nextAnswer_eq, readAt, regAt_zero]
    obtain ⟨h1, h2⟩ := ih (start + 1#32) (s.afterCall (.memRead start rep (readAt s rep start 0)))
    simp only [regRange, readAll, State.memRead_fst, State.memRead_snd, hx]
    refine ⟨?_, fun r => ?_⟩
    · rw [h1]
      exact (readEntries_succ ..).symm
    · rw [h2, readCalls_succ, afterCalls_cons]

/-! Tunnel slots. -/

/-- `boundSlot` finds a slot bound to the channel, the lowest one. -/
theorem boundSlot_some {slots : List Slot} {ch : U32} {i : Nat} (h : boundSlot slots ch = some i) :
    ∃ sl, slots[i]? = some sl ∧ sl.bound = true ∧ sl.chan = ch := by
  rw [boundSlot, List.findIdx?_eq_some_iff_getElem] at h
  obtain ⟨hlt, hp, -⟩ := h
  refine ⟨slots[i], List.getElem?_eq_getElem hlt, ?_⟩
  simpa [Slot.holds] using hp

/-- Where `boundSlot` finds none, no slot is bound to the channel. -/
theorem boundSlot_none {slots : List Slot} {ch : U32} (h : boundSlot slots ch = none) :
    ∀ sl ∈ slots, sl.bound = true → sl.chan ≠ ch := by
  intro sl hsl hb hc
  rw [boundSlot, List.findIdx?_eq_none_iff] at h
  have := h sl hsl
  simp [Slot.holds, hb, hc] at this

/-- `FindSlot` (44_tunnel.md R210): a slot bound to the channel, or a free slot where none is bound to it. -/
theorem findSlot_some {slots : List Slot} {ch : U32} {i : Nat} (h : findSlot slots ch = some i) :
    ∃ sl, slots[i]? = some sl ∧
      ((sl.bound = true ∧ sl.chan = ch) ∨ (sl.bound = false ∧ ∀ x ∈ slots, x.bound = true → x.chan ≠ ch)) := by
  unfold findSlot at h
  split at h
  · next j hj =>
    cases h
    obtain ⟨sl, h1, h2⟩ := boundSlot_some hj
    exact ⟨sl, h1, .inl h2⟩
  · next hn =>
    rw [List.findIdx?_eq_some_iff_getElem] at h
    obtain ⟨hlt, hp, -⟩ := h
    exact ⟨slots[i], List.getElem?_eq_getElem hlt, .inr ⟨by simpa using hp, boundSlot_none hn⟩⟩

/-- Where `FindSlot` finds none, every slot is bound, and to another channel. -/
theorem findSlot_none {slots : List Slot} {ch : U32} (h : findSlot slots ch = none) :
    ∀ sl ∈ slots, sl.bound = true ∧ sl.chan ≠ ch := by
  unfold findSlot at h
  split at h
  · cases h
  · next hn =>
    intro sl hsl
    rw [List.findIdx?_eq_none_iff] at h
    have hb : sl.bound = true := by simpa using h sl hsl
    exact ⟨hb, boundSlot_none hn sl hsl hb⟩

/-- Binding touches the one slot it names. -/
theorem bindAt_getElem? (slots : List Slot) (i j : Nat) (ch : U32) :
    (bindAt slots i ch)[j]? =
      if i = j then slots[j]?.map fun sl => if sl.bound then sl else { sl with bound := true, chan := ch }
      else slots[j]? := by
  rw [bindAt, List.getElem?_modify]
  split <;> simp

theorem bindAt_length (slots : List Slot) (i : Nat) (ch : U32) : (bindAt slots i ch).length = slots.length := by
  simp [bindAt]

/-- A FIFO takes what it has room for and never passes its capacity. -/
theorem fifoPush_length (capacity : Nat) (fifo bytes : List Byte) (h : fifo.length ≤ capacity) :
    (fifoPush capacity fifo bytes).length ≤ capacity := by
  simp only [fifoPush, List.length_append, List.length_take]
  omega

/-! The greatest number that satisfies a condition. -/

theorem greatest_le (p : Nat → Bool) (n : Nat) : greatest p n ≤ n := by
  induction n with
  | zero => simp [greatest]
  | succ n ih => simp only [greatest]; split <;> omega

/-- It satisfies the condition, unless it is 0. -/
theorem greatest_holds (p : Nat → Bool) (n : Nat) (h : greatest p n ≠ 0) : p (greatest p n) = true := by
  induction n with
  | zero => simp [greatest] at h
  | succ n ih =>
    simp only [greatest] at h ⊢
    split <;> simp_all

/-- Nothing above it, up to the bound, does. -/
theorem greatest_max (p : Nat → Bool) (n k : Nat) (h1 : greatest p n < k) (h2 : k ≤ n) : p k = false := by
  induction n with
  | zero => omega
  | succ n ih =>
    simp only [greatest] at h1
    split at h1
    · omega
    · next hp =>
      rcases Nat.lt_or_ge n k with h | h
      · have : k = n + 1 := by omega
        subst this
        simpa using hp
      · exact ih h1 h

end Sys2Proof.Machine
end

