-- ==== Sys2Proof/Laws/Engine.lean ====
section
/-! SUPPORT. What executing a subframe and taking a step can do, said once; later proofs take these cases apart and do
not unfold the machine. -/

namespace Sys2Proof.Machine

open Sys2Proof

/-! Executing one subframe. -/

/-- A write-single is one call and one result record. -/
theorem writeSingle_eq (reg : U32) (v : Value) (s : State) :
    writeSingle reg v s =
      afterCalls s [.memWrite reg v (answerAt s 0 (.write reg v)).code]
        (.wres (if (answerAt s 0 (.write reg v)).code = 0#32 then []
          else [(reg, (answerAt s 0 (.write reg v)).code)])) := by
  simp only [writeSingle, State.memWrite_fst, State.memWrite_snd, State.nextAnswer_eq, State.addResult,
    State.afterCall, afterCalls, List.length_singleton, List.drop_one]

/-- A read-single is one call and one result record. -/
theorem readSingle_eq (rep : Rep) (reg : U32) (s : State) :
    readSingle rep reg s =
      afterCalls s [.memRead reg rep (readAnswerOf rep (answerAt s 0 (.read reg rep)))]
        (.rres false rep [(reg, readAnswerOf rep (answerAt s 0 (.read reg rep)))]) := by
  simp only [readSingle, State.memRead_fst, State.memRead_snd, State.nextAnswer_eq, State.addResult,
    State.afterCall, afterCalls, List.length_singleton, List.drop_one]

theorem writeMultiple_eq (start : U32) (vs : List Value) (s : State) :
    writeMultiple start vs s = afterCalls s (writeCalls s start vs) (.wres (writeFailures s start vs)) := by
  obtain ⟨h1, h2⟩ := writeAll_spec vs start s
  simp only [writeMultiple, h1, h2]

theorem readMultiple_eq (rep : Rep) (start count : U32) (s : State) :
    readMultiple rep start count s =
      afterCalls s (readCalls s rep start count.toNat) (.rres true rep (readEntries s rep start count.toNat)) := by
  obtain ⟨h1, h2⟩ := readAll_spec rep count.toNat start s
  simp only [readMultiple, h1, h2]

/-- An answer to a read has the representation asked for, or a code that is not 0. -/
theorem readAnswerOf_ok (rep : Rep) (reg : U32) (a : ServerAnswer) : entryOk rep (reg, readAnswerOf rep a) = true := by
  unfold readAnswerOf
  split
  · cases rep <;> rfl
  · next h => simp [entryOk, h]

theorem readEntries_ok (s : State) (rep : Rep) (start : U32) (n : Nat) :
    (readEntries s rep start n).all (entryOk rep) = true := by
  simp only [readEntries, List.all_map, List.all_eq_true]
  exact fun i _ => readAnswerOf_ok ..

/-- A result record that says nothing of a slot, with no error code 0. -/
def callRecordOk (r : ResultRec) : Prop :=
  ∀ slots, recordOk slots r = true

theorem writeSingle_record (reg : U32) (code : U32) :
    callRecordOk (.wres (if code = 0#32 then [] else [(reg, code)])) := by
  intro _
  split <;> simp_all [recordOk]

theorem writeMultiple_record (s : State) (start : U32) (vs : List Value) :
    callRecordOk (.wres (writeFailures s start vs)) := by
  intro _
  simp [recordOk, writeFailures]

theorem readSingle_record (rep : Rep) (reg : U32) (a : ServerAnswer) :
    callRecordOk (.rres false rep [(reg, readAnswerOf rep a)]) := by
  intro _
  simp [recordOk, readAnswerOf_ok]

theorem readMultiple_record (s : State) (rep : Rep) (start : U32) (n : Nat) :
    callRecordOk (.rres true rep (readEntries s rep start n)) := by
  intro _
  simp [recordOk, readEntries_ok]

/-- What executing a subframe can do: it is malformed at this end, or it made Server calls and left one result record,
or it is a tunnel poll, or it added to the client's mentions. -/
inductive ExecCase (i : Instr) (s t : State) : Prop where
  | wrongEnd (h : s.cfg.role.takes i = false) (ht : t = s.takeError .malformedSubframe)
  | calls (h : s.cfg.role = .server) (hp : pollChannel i = none) (cs : List PortOutput) (r : ResultRec)
      (hr : callRecordOk r) (ht : t = afterCalls s cs r)
  | poll (h : s.cfg.role = .server) (ch : U32) (bytes : List Byte) (hi : i = .tunC2S ch bytes)
      (ht : t = receiveTunnel ch bytes s)
  | mention (h : s.cfg.role = .client) (m : Mentions) (ht : t = s.addMentions m)

theorem asRequest_cases {i : Instr} {run : State → State} {s : State} (hreq : i.isRequest = true)
    (hp : pollChannel i = none) (hrun : ∃ cs r, callRecordOk r ∧ run s = afterCalls s cs r) :
    ∃ t, asRequest run s = .next t ∧ ExecCase i s t := by
  obtain ⟨cs, r, hr, he⟩ := hrun
  unfold asRequest
  cases h : s.cfg.role with
  | server => exact ⟨_, rfl, .calls h hp cs r hr he⟩
  | client => exact ⟨_, rfl, .wrongEnd (by simp [h, Role.takes, hreq]) rfl⟩

theorem asReply_cases {i : Instr} {m : Mentions} {s : State} (hrep : i.isRequest = false) :
    ∃ t, asReply m s = .next t ∧ ExecCase i s t := by
  unfold asReply
  cases h : s.cfg.role with
  | server => exact ⟨_, rfl, .wrongEnd (by simp [h, Role.takes, hrep]) rfl⟩
  | client => exact ⟨_, rfl, .mention h m rfl⟩

theorem writeSingle_cases (reg : U32) (v : Value) (s : State) :
    ∃ cs r, callRecordOk r ∧ writeSingle reg v s = afterCalls s cs r :=
  ⟨_, _, writeSingle_record _ _, writeSingle_eq ..⟩

theorem writeMultiple_cases (start : U32) (vs : List Value) (s : State) :
    ∃ cs r, callRecordOk r ∧ writeMultiple start vs s = afterCalls s cs r :=
  ⟨_, _, writeMultiple_record s start vs, writeMultiple_eq ..⟩

theorem readSingle_cases (rep : Rep) (reg : U32) (s : State) :
    ∃ cs r, callRecordOk r ∧ readSingle rep reg s = afterCalls s cs r :=
  ⟨_, _, readSingle_record rep reg _, readSingle_eq ..⟩

theorem readMultiple_cases (rep : Rep) (start count : U32) (s : State) :
    ∃ cs r, callRecordOk r ∧ readMultiple rep start count s = afterCalls s cs r :=
  ⟨_, _, readMultiple_record s rep start count.toNat, readMultiple_eq ..⟩

/-- Every subframe is executed to a next state, in one of the four ways. -/
theorem exec_cases (i : Instr) (s : State) : ∃ t, exec i s = .next t ∧ ExecCase i s t := by
  cases i with
  | wrI8 reg v => exact asRequest_cases rfl rfl (writeSingle_cases ..)
  | wrI16 reg v => exact asRequest_cases rfl rfl (writeSingle_cases ..)
  | wrI32 reg v => exact asRequest_cases rfl rfl (writeSingle_cases ..)
  | wrF32 reg v => exact asRequest_cases rfl rfl (writeSingle_cases ..)
  | wrmI8 start vs => exact asRequest_cases rfl rfl (writeMultiple_cases ..)
  | wrmI16 start vs => exact asRequest_cases rfl rfl (writeMultiple_cases ..)
  | wrmI32 start vs => exact asRequest_cases rfl rfl (writeMultiple_cases ..)
  | wrmF32 start vs => exact asRequest_cases rfl rfl (writeMultiple_cases ..)
  | rdI8 reg => exact asRequest_cases rfl rfl (readSingle_cases ..)
  | rdI16 reg => exact asRequest_cases rfl rfl (readSingle_cases ..)
  | rdI32 reg => exact asRequest_cases rfl rfl (readSingle_cases ..)
  | rdF32 reg => exact asRequest_cases rfl rfl (readSingle_cases ..)
  | rdmI8 start count => exact asRequest_cases rfl rfl (readMultiple_cases ..)
  | rdmI16 start count => exact asRequest_cases rfl rfl (readMultiple_cases ..)
  | rdmI32 start count => exact asRequest_cases rfl rfl (readMultiple_cases ..)
  | rdmF32 start count => exact asRequest_cases rfl rfl (readMultiple_cases ..)
  | rplI8 reg v => exact asReply_cases rfl
  | rplI16 reg v => exact asReply_cases rfl
  | rplI32 reg v => exact asReply_cases rfl
  | rplF32 reg v => exact asReply_cases rfl
  | rplmI8 start vs => exact asReply_cases rfl
  | rplmI16 start vs => exact asReply_cases rfl
  | rplmI32 start vs => exact asReply_cases rfl
  | rplmF32 start vs => exact asReply_cases rfl
  | werr reg code => exact asReply_cases rfl
  | rerr reg code => exact asReply_cases rfl
  | tunC2S ch bytes =>
    simp only [exec, execTunC2S]
    cases h : s.cfg.role with
    | server => exact ⟨_, rfl, .poll h ch bytes rfl rfl⟩
    | client => exact ⟨_, rfl, .wrongEnd (by simp [h, Role.takes, Instr.isRequest]) rfl⟩
  | tunS2C ch bytes => exact asReply_cases rfl

/-- A tunnel poll: no slot can take the channel, or one does. -/
theorem receiveTunnel_cases (ch : U32) (bytes : List Byte) (s : State) :
    (findSlot s.slots ch = none ∧ receiveTunnel ch bytes s = s.takeError .malformedSubframe) ∨
      ∃ i, findSlot s.slots ch = some i ∧
        receiveTunnel ch bytes s =
          ({ s with slots := pushIn s.cfg.tunnelCapacity (bindAt s.slots i ch) i bytes }).addResult (.tres ch i) := by
  unfold receiveTunnel bindSlot
  cases h : findSlot s.slots ch with
  | none => exact .inl ⟨rfl, rfl⟩
  | some i => exact .inr ⟨i, rfl, rfl⟩

/-- What executing a subframe never changes, at either end. -/
theorem exec_frame {i : Instr} {s t : State} (h : exec i s = .next t) :
    t.cfg = s.cfg ∧ t.nodeId = s.nodeId ∧ t.rxSrc = s.rxSrc ∧ t.rxDst = s.rxDst ∧ t.rxLen = s.rxLen ∧
      t.rxLenN = s.rxLenN ∧ t.rxCrc = s.rxCrc ∧ t.accSrcId = s.accSrcId ∧ t.accRr = s.accRr ∧
      t.accDst = s.accDst ∧ t.accPayload = s.accPayload ∧ t.replyNeeded = s.replyNeeded ∧
      t.replyPayload = s.replyPayload ∧ t.txFrame = s.txFrame ∧ t.inputs = s.inputs := by
  obtain ⟨u, hu, hc⟩ := exec_cases i s
  rw [h] at hu
  cases hu
  cases hc with
  | wrongEnd _ ht => subst ht; simp
  | calls _ _ cs r _ ht => subst ht; simp [afterCalls]
  | poll _ ch bytes _ ht =>
    subst ht
    obtain ⟨-, h2⟩ | ⟨j, -, h2⟩ := receiveTunnel_cases ch bytes s <;> simp [h2]
  | mention _ m ht => subst ht; simp

/-- A list of subframes is executed to a next state. -/
theorem execAll_total (l : List Instr) : ∀ s, ∃ t, execAll l s = .next t := by
  induction l with
  | nil => exact fun s => ⟨s, rfl⟩
  | cons i l ih =>
    intro s
    obtain ⟨u, hu, -⟩ := exec_cases i s
    obtain ⟨t, ht⟩ := ih u
    exact ⟨t, by simp only [execAll, hu, ht]⟩

/-- A property that executing any subframe of the list keeps holds after the list. -/
theorem execAll_keeps {P : State → Prop} {l : List Instr} : ∀ {s t : State},
    (∀ i ∈ l, ∀ s t, P s → exec i s = .next t → P t) → P s → execAll l s = .next t → P t := by
  induction l with
  | nil =>
    intro s t _ hs h
    cases h
    exact hs
  | cons i l ih =>
    intro s t hk hs h
    obtain ⟨u, hu, -⟩ := exec_cases i s
    simp only [execAll, hu] at h
    exact ih (fun j hj => hk j (List.mem_cons_of_mem _ hj)) (hk i List.mem_cons_self s u hs hu) h

/-! The walk of a payload. -/

/-- The walk yields only subframes of the class this end takes. -/
theorem walk_takes (role : Role) (buf : Nat) (fuel : Nat) : ∀ bs, ∀ i ∈ (walk role buf fuel bs).2,
    role.takes i = true := by
  induction fuel with
  | zero => intro bs i hi; cases bs <;> simp [walk] at hi
  | succ fuel ih =>
    intro bs i hi
    cases bs with
    | nil => simp [walk] at hi
    | cons b bs =>
      simp only [walk] at hi
      split at hi
      · simp at hi
      · simp at hi
      · next j rest hd =>
        have hj : role.takes j = true := by
          unfold decodeAt at hd
          split at hd
          · split at hd <;> simp_all
          · cases hd
          · cases hd
        have hr := ih rest
        split at hi
        · simp at hi
        · next l hl =>
          rw [hl] at hr
          rcases List.mem_cons.1 hi with rfl | hi
          exacts [hj, hr i hi]
        · next l hl =>
          rw [hl] at hr
          rcases List.mem_cons.1 hi with rfl | hi
          exacts [hj, hr i hi]

/-- The scan's verdict: malformed with nothing to execute, or subframes that this end takes, no tunnel poll beside
another subframe, and a slot for the channel polled. -/
theorem judge_cases (s : State) :
    judge s = (.malformed, []) ∨
      ((judge s).1 ≠ .malformed ∧ (∀ i ∈ (judge s).2, i.isRequest = true) ∧ tunnelNotAlone (judge s).2 = false ∧
        noSlotFor s.slots (judge s).2 = false) ∨ ((judge s).1 = .malformed) := by
  by_cases hm : (judge s).1 = .malformed
  · exact .inr (.inr hm)
  · refine .inr (.inl ⟨hm, ?_⟩)
    unfold judge at hm ⊢
    dsimp only at hm ⊢
    split at hm
    · exact absurd rfl hm
    · next hc =>
      rw [if_neg hc]
      simp only [Bool.or_eq_true, not_or, Bool.not_eq_true] at hc
      exact ⟨fun i hi => walk_takes .server _ _ _ i hi, hc.1, hc.2⟩

/-! The list of offered events. -/

/-- The event taken is one of the offers, it can occur now, and the others stay in their order. -/
theorem takeOffer_spec {s : State} {l left : List Offer} {e : PortEvent} : ∀ {held},
    takeOffer s held l = some (e, left) →
      accepts s e = true ∧ ∃ a o b, l = a ++ o :: b ∧ left = a ++ b ∧ o.event = e := by
  induction l generalizing left with
  | nil => intro _ h; simp [takeOffer] at h
  | cons o rest ih =>
    intro held h
    simp only [takeOffer] at h
    split at h
    · next hc =>
      cases h
      simp only [Bool.and_eq_true] at hc
      exact ⟨hc.1, [], o, rest, rfl, rfl, rfl⟩
    · split at h
      · next e' left' h' =>
        cases h
        obtain ⟨ha, a, o', b, h1, h2, h3⟩ := ih h'
        exact ⟨ha, o :: a, o', b, by rw [h1]; rfl, by rw [h2]; rfl, h3⟩
      · cases h

theorem takeEarly_spec {s : State} {left : List Offer} {e : PortEvent} (h : takeEarly s = some (e, left)) :
    accepts s e = true ∧ ∃ a o b, s.inputs = a ++ o :: b ∧ left = a ++ b ∧ o.event = e := by
  unfold takeEarly at h
  split at h
  · cases h
  · next o rest hi =>
    split at h
    · next hc =>
      simp only [Option.some.injEq, Prod.mk.injEq] at h
      simp only [Bool.and_eq_true] at hc
      obtain ⟨rfl, rfl⟩ := h
      exact ⟨hc.2, [], o, _, hi, rfl, rfl⟩
    · cases h

/-! One step. -/

theorem noEarlyEvent_of_nil {s : State} (h : s.inputs = []) : noEarlyEvent s := by
  intro o rest hc
  simp [h] at hc

/-- Where no event comes first, the step is the engine's own. -/
theorem step_of_noEarlyEvent {s : State} (h : noEarlyEvent s) : step s = engineStep s := by
  have : takeEarly s = none := by
    unfold takeEarly
    split
    · rfl
    · next o rest hi => simp [h o rest hi]
  simp only [step, blockStep, this]

/-- What a step can do: take one offered event, run the internal action of `VALIDATE`, `DISPATCH` or `COMPOSE`, or
wait. -/
inductive StepCase (s : State) (out : Host.Outcome State Fault Refusal) : Prop where
  | event (e : PortEvent) (a b : List Offer) (o : Offer) (hi : s.inputs = a ++ o :: b) (he : o.event = e)
      (ha : accepts s e = true) (ho : out = handle e { s with inputs := a ++ b })
  | validate (h : s.cfg.role = .server) (hs : s.srvState = .validate) (ho : out = .next (validateStep s))
  | dispatch (h : s.cfg.role = .server) (hs : s.srvState = .dispatch) (ho : out = dispatchStep s)
  | compose (h : s.cfg.role = .server) (hs : s.srvState = .compose) (ho : out = .next (composeStep s))
  | wait (ho : out = .next s)

theorem eventStep_cases (s : State) : StepCase s (eventStep s) := by
  unfold eventStep
  split
  · next e left h =>
    obtain ⟨ha, a, o, b, h1, h2, h3⟩ := takeOffer_spec h
    subst h2
    exact .event e a b o h1 h3 ha rfl
  · exact .wait rfl

theorem step_cases (s : State) : StepCase s (step s) := by
  unfold step blockStep
  split
  · next e left h =>
    obtain ⟨ha, a, o, b, h1, h2, h3⟩ := takeEarly_spec h
    subst h2
    exact .event e a b o h1 h3 ha rfl
  · unfold engineStep
    split
    · exact eventStep_cases s
    · next hr =>
      split
      · next hs => exact .validate hr hs rfl
      · next hs => exact .dispatch hr hs rfl
      · next hs => exact .compose hr hs rfl
      all_goals exact eventStep_cases s

/-- The `DISPATCH` step: a malformed payload is counted, or the subframes scanned are executed in order. -/
theorem dispatchStep_cases (s : State) :
    ((judge s).1 = .malformed ∧
        dispatchStep s =
          .next (({ s with scanOutcome := (judge s).1, scanList := (judge s).2 }).takeError .malformedSubframe)) ∨
      ∃ u, execAll (judge s).2 { s with scanOutcome := (judge s).1, scanList := (judge s).2 } = .next u ∧
        (((judge s).1 = .ok ∧ dispatchStep s = .next (toCompose u)) ∨
          ((judge s).1 = .unknown ∧ dispatchStep s = .next (toCompose (u.takeError .unknownSubframe)))) := by
  obtain ⟨u, hu⟩ := execAll_total (judge s).2 { s with scanOutcome := (judge s).1, scanList := (judge s).2 }
  unfold dispatchStep
  dsimp only
  cases h : (judge s).1 with
  | malformed => exact .inl ⟨rfl, rfl⟩
  | ok =>
    rw [h] at hu
    exact .inr ⟨u, hu, .inl ⟨rfl, by simp only [hu, andThen]⟩⟩
  | unknown =>
    rw [h] at hu
    exact .inr ⟨u, hu, .inr ⟨rfl, by simp only [hu, andThen]⟩⟩

/-- Taking a reply: the receiver is cleared; a malformed reply is counted and resolved, or the mentions are collected
and checked. -/
theorem takeReply_cases (req : CliReq) (s : State) :
    (takeReply req s = .next (s.discardFrame.takeError .malformedSubframe)) ∨
      ∃ l u v, (∀ i ∈ l, i.isRequest = false) ∧ (u = s.discardFrame ∨ u = s.discardFrame.takeError .unknownSubframe) ∧
        execAll l u = .next v ∧ takeReply req s = .next (conclude req v) := by
  have ht := walk_takes .client s.cfg.bufferSize s.rxPay.length s.rxPay
  have hcls : ∀ i ∈ (walkPayload .client s.cfg.bufferSize s.rxPay).2, i.isRequest = false := by
    intro i hi
    have := ht i hi
    simpa [Role.takes] using this
  unfold takeReply
  dsimp only
  split
  · exact .inl rfl
  · obtain ⟨v, hv⟩ := execAll_total (walkPayload .client s.cfg.bufferSize s.rxPay).2 s.discardFrame
    exact .inr ⟨_, _, v, hcls, .inl rfl, hv, by simp only [hv, andThen]⟩
  · obtain ⟨v, hv⟩ := execAll_total (walkPayload .client s.cfg.bufferSize s.rxPay).2
      (s.discardFrame.takeError .unknownSubframe)
    exact .inr ⟨_, _, v, hcls, .inr rfl, hv, by simp only [hv, andThen]⟩

/-- The client's check of a complete frame. -/
theorem clientCheck_cases (s : State) :
    clientCheck s = .next s.discardFrame ∨ clientCheck s = .next (s.takeError .checksumMismatch) ∨
      clientCheck s = .next (s.takeError .wrongId) ∨
      ∃ req, s.cliState = .await ∧ s.cliReq = some req ∧ checksumOk s = true ∧ notFromNode s req = false ∧
        clientCheck s = takeReply req s := by
  by_cases h1 : s.cliState ≠ .await
  · exact .inl (by simp only [clientCheck, if_pos h1])
  by_cases h2 : checksumOk s = true
  · cases hq : s.cliReq with
    | none => exact .inr (.inr (.inl (by simp [clientCheck, h1, h2, hq])))
    | some req =>
      by_cases h3 : notFromNode s req = true
      · exact .inr (.inr (.inl (by simp [clientCheck, h1, h2, hq, h3])))
      · refine .inr (.inr (.inr ⟨req, not_not.1 h1, rfl, h2, by simpa using h3, ?_⟩))
        simp [clientCheck, h1, h2, hq, h3]
  · exact .inr (.inl (by simp [clientCheck, h1, h2]))

end Sys2Proof.Machine
end

