-- ==== Sys2Proof/Laws/PerInstr.lean ====
section
/-! SUPPORT. Statements made per instruction: the length of a subframe is one tag byte and the body length that
30_encoding.md R80 gives. -/

namespace Sys2Proof.Laws

open Sys2Proof

/-- The body length of each instruction, as the table of 30_encoding.md R80 has it. -/
def bodyLength : Instr → Nat
  | .wrI8 reg _ => vlen reg + 1
  | .wrI16 reg _ => vlen reg + 2
  | .wrI32 reg _ => vlen reg + 4
  | .wrF32 reg _ => vlen reg + 4
  | .wrmI8 start vs => vlen start + vlen (BitVec.ofNat 32 vs.length) + vs.length * 1
  | .wrmI16 start vs => vlen start + vlen (BitVec.ofNat 32 vs.length) + vs.length * 2
  | .wrmI32 start vs => vlen start + vlen (BitVec.ofNat 32 vs.length) + vs.length * 4
  | .wrmF32 start vs => vlen start + vlen (BitVec.ofNat 32 vs.length) + vs.length * 4
  | .rdI8 reg => vlen reg
  | .rdI16 reg => vlen reg
  | .rdI32 reg => vlen reg
  | .rdF32 reg => vlen reg
  | .rdmI8 start count => vlen start + vlen count
  | .rdmI16 start count => vlen start + vlen count
  | .rdmI32 start count => vlen start + vlen count
  | .rdmF32 start count => vlen start + vlen count
  | .rplI8 reg _ => vlen reg + 1
  | .rplI16 reg _ => vlen reg + 2
  | .rplI32 reg _ => vlen reg + 4
  | .rplF32 reg _ => vlen reg + 4
  | .rplmI8 start vs => vlen start + vlen (BitVec.ofNat 32 vs.length) + vs.length * 1
  | .rplmI16 start vs => vlen start + vlen (BitVec.ofNat 32 vs.length) + vs.length * 2
  | .rplmI32 start vs => vlen start + vlen (BitVec.ofNat 32 vs.length) + vs.length * 4
  | .rplmF32 start vs => vlen start + vlen (BitVec.ofNat 32 vs.length) + vs.length * 4
  | .werr reg code => vlen reg + vlen code
  | .rerr reg code => vlen reg + vlen code
  | .tunC2S channel bytes => vlen channel + vlen (BitVec.ofNat 32 bytes.length) + bytes.length
  | .tunS2C channel bytes => vlen channel + vlen (BitVec.ofNat 32 bytes.length) + bytes.length

theorem leBytes_length (n x : Nat) : (leBytes n x).length = n := by
  induction n generalizing x with
  | zero => rfl
  | succ n ih => simp [leBytes, ih]

theorem flatMap_leBytes_length (size : Nat) (l : List Nat) : (l.flatMap (leBytes size)).length = l.length * size := by
  induction l with
  | nil => simp
  | cons x l ih => simp [ih, leBytes_length, Nat.add_mul, Nat.add_comm]

theorem encodeRegValue_length (size : Nat) (reg : U32) (v : Nat) :
    (encodeRegValue size reg v).length = vlen reg + size := by
  simp [encodeRegValue, leBytes_length, vlen]

theorem encodeMulti_length (size : Nat) (start : U32) (l : List Nat) :
    (encodeMulti size start l).length = vlen start + vlen (BitVec.ofNat 32 l.length) + l.length * size := by
  simp only [encodeMulti, List.length_append, flatMap_leBytes_length, vlen]

theorem encodeMulti_length_map {w : Nat} (size : Nat) (start : U32) (vs : List (BitVec w)) :
    (encodeMulti size start (vs.map BitVec.toNat)).length =
      vlen start + vlen (BitVec.ofNat 32 vs.length) + vs.length * size := by
  rw [encodeMulti_length, List.length_map]

theorem encodePair_length (a b : U32) : (encodePair a b).length = vlen a + vlen b := by
  simp only [encodePair, List.length_append, vlen]

theorem encodeTunnel_length (channel : U32) (bytes : List Byte) :
    (encodeTunnel channel bytes).length =
      vlen channel + vlen (BitVec.ofNat 32 bytes.length) + bytes.length := by
  simp only [encodeTunnel, List.length_append, vlen]

/-- Every tag of the table takes one byte. -/
theorem varEncode_tag (t : Nat) (h : t < 128) : (varEncode (BitVec.ofNat 32 t)).length = 1 := by
  have h1 : (BitVec.ofNat 32 t).toNat = t := by
    rw [BitVec.toNat_ofNat]
    omega
  simp [varEncode, h1, varEncodeLoop, Nat.div_eq_of_lt h]

theorem tag_lt (i : Instr) : i.tag < 128 := by
  cases i <;> simp [Instr.tag]

theorem encode_length (i : Instr) {n : Nat} (hb : i.body.length = n) : (encode i).length = 1 + n := by
  rw [encode, List.length_append, varEncode_tag i.tag (tag_lt i), hb]

/-- A subframe is its tag byte and its body (30_encoding.md R80). -/
def EncodedLength.Statement (i : Instr) : Prop :=
  (encode i).length = 1 + bodyLength i

theorem EncodedLength.wrI8 (reg : U32) (v : BitVec 8) :
    EncodedLength.Statement (.wrI8 reg v) :=
  encode_length _ (encodeRegValue_length ..)

theorem EncodedLength.wrI16 (reg : U32) (v : BitVec 16) :
    EncodedLength.Statement (.wrI16 reg v) :=
  encode_length _ (encodeRegValue_length ..)

theorem EncodedLength.wrI32 (reg : U32) (v : BitVec 32) :
    EncodedLength.Statement (.wrI32 reg v) :=
  encode_length _ (encodeRegValue_length ..)

theorem EncodedLength.wrF32 (reg : U32) (v : BitVec 32) :
    EncodedLength.Statement (.wrF32 reg v) :=
  encode_length _ (encodeRegValue_length ..)

theorem EncodedLength.wrmI8 (start : U32) (vs : List (BitVec 8)) :
    EncodedLength.Statement (.wrmI8 start vs) :=
  encode_length _ (encodeMulti_length_map ..)

theorem EncodedLength.wrmI16 (start : U32) (vs : List (BitVec 16)) :
    EncodedLength.Statement (.wrmI16 start vs) :=
  encode_length _ (encodeMulti_length_map ..)

theorem EncodedLength.wrmI32 (start : U32) (vs : List (BitVec 32)) :
    EncodedLength.Statement (.wrmI32 start vs) :=
  encode_length _ (encodeMulti_length_map ..)

theorem EncodedLength.wrmF32 (start : U32) (vs : List (BitVec 32)) :
    EncodedLength.Statement (.wrmF32 start vs) :=
  encode_length _ (encodeMulti_length_map ..)

theorem EncodedLength.rdI8 (reg : U32) :
    EncodedLength.Statement (.rdI8 reg) :=
  encode_length _ rfl

theorem EncodedLength.rdI16 (reg : U32) :
    EncodedLength.Statement (.rdI16 reg) :=
  encode_length _ rfl

theorem EncodedLength.rdI32 (reg : U32) :
    EncodedLength.Statement (.rdI32 reg) :=
  encode_length _ rfl

theorem EncodedLength.rdF32 (reg : U32) :
    EncodedLength.Statement (.rdF32 reg) :=
  encode_length _ rfl

theorem EncodedLength.rdmI8 (start : U32) (count : U32) :
    EncodedLength.Statement (.rdmI8 start count) :=
  encode_length _ (encodePair_length ..)

theorem EncodedLength.rdmI16 (start : U32) (count : U32) :
    EncodedLength.Statement (.rdmI16 start count) :=
  encode_length _ (encodePair_length ..)

theorem EncodedLength.rdmI32 (start : U32) (count : U32) :
    EncodedLength.Statement (.rdmI32 start count) :=
  encode_length _ (encodePair_length ..)

theorem EncodedLength.rdmF32 (start : U32) (count : U32) :
    EncodedLength.Statement (.rdmF32 start count) :=
  encode_length _ (encodePair_length ..)

theorem EncodedLength.rplI8 (reg : U32) (v : BitVec 8) :
    EncodedLength.Statement (.rplI8 reg v) :=
  encode_length _ (encodeRegValue_length ..)

theorem EncodedLength.rplI16 (reg : U32) (v : BitVec 16) :
    EncodedLength.Statement (.rplI16 reg v) :=
  encode_length _ (encodeRegValue_length ..)

theorem EncodedLength.rplI32 (reg : U32) (v : BitVec 32) :
    EncodedLength.Statement (.rplI32 reg v) :=
  encode_length _ (encodeRegValue_length ..)

theorem EncodedLength.rplF32 (reg : U32) (v : BitVec 32) :
    EncodedLength.Statement (.rplF32 reg v) :=
  encode_length _ (encodeRegValue_length ..)

theorem EncodedLength.rplmI8 (start : U32) (vs : List (BitVec 8)) :
    EncodedLength.Statement (.rplmI8 start vs) :=
  encode_length _ (encodeMulti_length_map ..)

theorem EncodedLength.rplmI16 (start : U32) (vs : List (BitVec 16)) :
    EncodedLength.Statement (.rplmI16 start vs) :=
  encode_length _ (encodeMulti_length_map ..)

theorem EncodedLength.rplmI32 (start : U32) (vs : List (BitVec 32)) :
    EncodedLength.Statement (.rplmI32 start vs) :=
  encode_length _ (encodeMulti_length_map ..)

theorem EncodedLength.rplmF32 (start : U32) (vs : List (BitVec 32)) :
    EncodedLength.Statement (.rplmF32 start vs) :=
  encode_length _ (encodeMulti_length_map ..)

theorem EncodedLength.werr (reg : U32) (code : U32) :
    EncodedLength.Statement (.werr reg code) :=
  encode_length _ (encodePair_length ..)

theorem EncodedLength.rerr (reg : U32) (code : U32) :
    EncodedLength.Statement (.rerr reg code) :=
  encode_length _ (encodePair_length ..)

theorem EncodedLength.tunC2S (channel : U32) (bytes : List Byte) :
    EncodedLength.Statement (.tunC2S channel bytes) :=
  encode_length _ (encodeTunnel_length ..)

theorem EncodedLength.tunS2C (channel : U32) (bytes : List Byte) :
    EncodedLength.Statement (.tunS2C channel bytes) :=
  encode_length _ (encodeTunnel_length ..)

end Sys2Proof.Laws
end

