-- ==== Sys2Proof/Tests/Slice0.lean ====
section
/-! SUPPORT. The model's own tests. Expected results come from the examples of spec/43_register_rpc.md, spec/44_tunnel.md and
the vectors of spec/95_test_vectors.md, named in each group; then, for every statement with premises, states and
operands that meet them. -/

namespace Sys2Proof.Tests

open Sys2Proof Sys2Proof.Machine

/-! Helpers. -/

/-- A field of the next state, where there is one. -/
def nextField {α : Type} (o : Host.Outcome State Fault Refusal) (f : State → α) : Option α :=
  match o with
  | .next s => some (f s)
  | .fault _ => none
  | .refused _ => none

/-- A server in `DISPATCH` with this payload, the Server answering with these. -/
def serving (payload : List Byte) (answers : List ServerAnswer) : State :=
  { State.reset with srvState := .dispatch, accPayload := payload, answers := answers }

/-- The client fixture of 95_test_vectors.md: node 0. -/
def client : State :=
  State.resetWith { Config.default with role := .client, storedId := some 0#8 }

/-- The client fixture awaiting a reply of node 1. -/
def awaiting (reads : List (U32 × Rep)) : State :=
  { client with
    cliState := .await
    cliReq := some { dest := 1#8, expectReply := true, expectReads := reads, expectTunnel := none } }

/-- One bound slot, channel 7, with bytes both ways. -/
def tunnelSlot : Slot :=
  { bound := true, chan := 7#32, inFifo := [0x01#8], outFifo := [0x02#8, 0x03#8] }

def success : ServerAnswer := { code := 0#32, bits := 0xDDCCBBAA#32 }

def failure : ServerAnswer := { code := 5#32, bits := 0#32 }

/-! Ill-formed terms, one for each check and form, and the boundary that is well-formed (30_encoding.md R79, R81). -/

theorem test_wf_wrm_range : (Instr.wrmI8 0xFFFFFFFF#32 [1#8, 2#8]).wf 64 = false := by decide
theorem test_wf_wrm_top : (Instr.wrmI8 0xFFFFFFFF#32 [1#8]).wf 64 = true := by decide
theorem test_wf_wrm16_range : (Instr.wrmI16 0xFFFFFFFF#32 [1#16, 2#16]).wf 64 = false := by decide
theorem test_wf_wrm32_range : (Instr.wrmI32 0xFFFFFFFF#32 [1#32, 2#32]).wf 64 = false := by decide
theorem test_wf_wrmf_range : (Instr.wrmF32 0xFFFFFFFF#32 [1#32, 2#32]).wf 64 = false := by decide
theorem test_wf_rdm_range : (Instr.rdmI8 0xFFFFFFFF#32 2#32).wf 64 = false := by decide
theorem test_wf_rdm16_range : (Instr.rdmI16 0xFFFFFFFF#32 2#32).wf 64 = false := by decide
theorem test_wf_rdm32_range : (Instr.rdmI32 0xFFFFFFFF#32 2#32).wf 64 = false := by decide
theorem test_wf_rdmf_range : (Instr.rdmF32 0xFFFFFFFF#32 2#32).wf 64 = false := by decide
theorem test_wf_rdm_count : (Instr.rdmI8 0#32 65#32).wf 64 = false := by decide
theorem test_wf_rdm_full : (Instr.rdmI8 0#32 64#32).wf 64 = true := by decide
theorem test_wf_rplm_range : (Instr.rplmI8 0xFFFFFFFF#32 [1#8, 2#8]).wf 64 = false := by decide
theorem test_wf_rplm16_range : (Instr.rplmI16 0xFFFFFFFF#32 [1#16, 2#16]).wf 64 = false := by decide
theorem test_wf_rplm32_range : (Instr.rplmI32 0xFFFFFFFF#32 [1#32, 2#32]).wf 64 = false := by decide
theorem test_wf_rplmf_range : (Instr.rplmF32 0xFFFFFFFF#32 [1#32, 2#32]).wf 64 = false := by decide
theorem test_wf_values_count (vs : List (BitVec 8)) (h : vs.length = 2 ^ 32) :
    (Instr.wrmI8 0#32 vs).wf 64 = false := by
  simp [Instr.wf, rangeWf, h]
theorem test_wf_poll_count (bytes : List Byte) (h : bytes.length = 2 ^ 32) : (Instr.tunC2S 0#32 bytes).wf 64 = false := by
  simp [Instr.wf, bytesWf, h]
theorem test_wf_tunnel_count (bytes : List Byte) (h : bytes.length = 2 ^ 32) :
    (Instr.tunS2C 0#32 bytes).wf 64 = false := by
  simp [Instr.wf, bytesWf, h]

/-! Decoding: the example of each tag's rule, written out (43_register_rpc.md R176 to R201, 44_tunnel.md R211, R212). -/

theorem test_decode_wrI8 : decode 64 [0x10#8, 0x05#8, 0x12#8] = .ok (.wrI8 5#32 0x12#8) [] := by decide
theorem test_decode_wrI16 : decode 64 [0x11#8, 0x05#8, 0x34#8, 0x12#8] = .ok (.wrI16 5#32 0x1234#16) [] := by decide
theorem test_decode_wrI32 : decode 64 [0x12#8, 0xAC#8, 0x02#8, 0x78#8, 0x56#8, 0x34#8, 0x12#8] =
    .ok (.wrI32 300#32 0x12345678#32) [] := by decide
theorem test_decode_wrF32 : decode 64 [0x13#8, 0x02#8, 0x00#8, 0x00#8, 0x80#8, 0x3F#8] =
    .ok (.wrF32 2#32 0x3F800000#32) [] := by decide
theorem test_decode_wrmI8 : decode 64 [0x14#8, 0x05#8, 0x02#8, 0x01#8, 0x02#8] =
    .ok (.wrmI8 5#32 [1#8, 2#8]) [] := by decide
theorem test_decode_wrmI16 : decode 64 [0x15#8, 0x00#8, 0x01#8, 0xEF#8, 0xBE#8] =
    .ok (.wrmI16 0#32 [0xBEEF#16]) [] := by decide
theorem test_decode_wrmI32 : decode 64
    [0x16#8, 0x0A#8, 0x02#8, 0x01#8, 0x00#8, 0x00#8, 0x00#8, 0x02#8, 0x00#8, 0x00#8, 0x00#8] =
    .ok (.wrmI32 10#32 [1#32, 2#32]) [] := by decide
theorem test_decode_wrmF32 : decode 64 [0x17#8, 0x01#8, 0x00#8] = .ok (.wrmF32 1#32 []) [] := by decide
theorem test_decode_rdI8 : decode 64 [0x18#8, 0x02#8] = .ok (.rdI8 2#32) [] := by decide
theorem test_decode_rdI16 : decode 64 [0x19#8, 0x03#8] = .ok (.rdI16 3#32) [] := by decide
theorem test_decode_rdI32 : decode 64 [0x1A#8, 0x80#8, 0x01#8] = .ok (.rdI32 128#32) [] := by decide
theorem test_decode_rdF32 : decode 64 [0x1B#8, 0x00#8] = .ok (.rdF32 0#32) [] := by decide
theorem test_decode_rdmI8 : decode 64 [0x1C#8, 0x02#8, 0x03#8] = .ok (.rdmI8 2#32 3#32) [] := by decide
theorem test_decode_rdmI16 : decode 64 [0x1D#8, 0x00#8, 0x02#8] = .ok (.rdmI16 0#32 2#32) [] := by decide
theorem test_decode_rdmI32 : decode 64 [0x1E#8, 0x07#8, 0x01#8] = .ok (.rdmI32 7#32 1#32) [] := by decide
theorem test_decode_rdmF32 : decode 64 [0x1F#8, 0xFF#8, 0xFF#8, 0xFF#8, 0xFF#8, 0x0F#8, 0x01#8] =
    .ok (.rdmF32 0xFFFFFFFF#32 1#32) [] := by decide
theorem test_decode_rplI8 : decode 64 [0x20#8, 0x02#8, 0x7F#8] = .ok (.rplI8 2#32 0x7F#8) [] := by decide
theorem test_decode_rplI16 : decode 64 [0x21#8, 0x03#8, 0x34#8, 0x12#8] =
    .ok (.rplI16 3#32 0x1234#16) [] := by decide
theorem test_decode_rplI32 : decode 64 [0x22#8, 0x80#8, 0x01#8, 0xEF#8, 0xBE#8, 0xAD#8, 0xDE#8] =
    .ok (.rplI32 128#32 0xDEADBEEF#32) [] := by decide
theorem test_decode_rplF32 : decode 64 [0x23#8, 0x00#8, 0x01#8, 0x00#8, 0xC0#8, 0x7F#8] =
    .ok (.rplF32 0#32 0x7FC00001#32) [] := by decide
theorem test_decode_rplmI8 : decode 64 [0x24#8, 0x02#8, 0x03#8, 0x0A#8, 0x0B#8, 0x0C#8] =
    .ok (.rplmI8 2#32 [0x0A#8, 0x0B#8, 0x0C#8]) [] := by decide
theorem test_decode_rplmI16 : decode 64 [0x25#8, 0x00#8, 0x02#8, 0x01#8, 0x00#8, 0xFF#8, 0xFF#8] =
    .ok (.rplmI16 0#32 [0x0001#16, 0xFFFF#16]) [] := by decide
theorem test_decode_rplmI32 : decode 64 [0x26#8, 0x0A#8, 0x01#8, 0x01#8, 0x00#8, 0x00#8, 0x00#8] =
    .ok (.rplmI32 10#32 [1#32]) [] := by decide
theorem test_decode_rplmF32 : decode 64
    [0x27#8, 0xFF#8, 0xFF#8, 0xFF#8, 0xFF#8, 0x0F#8, 0x01#8, 0x00#8, 0x00#8, 0x00#8, 0x00#8] =
    .ok (.rplmF32 0xFFFFFFFF#32 [0#32]) [] := by decide
theorem test_decode_werr : decode 64 [0x28#8, 0x05#8, 0x03#8] = .ok (.werr 5#32 3#32) [] := by decide
theorem test_decode_rerr : decode 64 [0x29#8, 0x03#8, 0x05#8] = .ok (.rerr 3#32 5#32) [] := by decide
theorem test_decode_tunC2S : decode 64 [0x40#8, 0x00#8, 0x02#8, 0x68#8, 0x69#8] =
    .ok (.tunC2S 0#32 [0x68#8, 0x69#8]) [] := by decide
theorem test_decode_tunS2C : decode 64 [0x41#8, 0x00#8, 0x02#8, 0x6F#8, 0x6B#8] =
    .ok (.tunS2C 0#32 [0x6F#8, 0x6B#8]) [] := by decide

/-! Decoding that fails, by name (30_encoding.md R81 to R83; 95_test_vectors.md V-DS8, V-DS10, V-CL10, V-CL11). -/

theorem test_decode_cut_varuint : decode 64 [0x18#8, 0x80#8] = .malformed .varuint := by decide
theorem test_decode_cut_values : decode 64 [0x24#8, 0x02#8, 0x03#8, 0x0A#8, 0x0B#8] = .malformed .cut := by decide
theorem test_decode_range : decode 64
    [0x16#8, 0xFF#8, 0xFF#8, 0xFF#8, 0xFF#8, 0x0F#8, 0x02#8] = .malformed .range := by decide
theorem test_decode_read_count : decode 64 [0x1C#8, 0x00#8, 0x41#8] = .malformed .readCount := by decide
theorem test_decode_unknown : decode 64 [0x30#8] = .unknown 0x30#32 := by decide
theorem test_decode_reply_at_server : decodeAt .server 64 [0x20#8, 0x02#8, 0x7F#8] = .malformed .direction := by decide
theorem test_decode_request_at_client : decodeAt .client 64 [0x18#8, 0x02#8] = .malformed .direction := by decide
theorem test_decode_tag_not_minimal : decode 64 [0x90#8, 0x00#8, 0x05#8, 0x12#8] =
    .ok (.wrI8 5#32 0x12#8) [] := by decide
theorem test_decode_table_word : decodeTableWord 24 0x120510 = some (.wrI8 5#32 0x12#8) := by decide
theorem test_decode_table_word_short : decodeTableWord 8 0x18 = some (.rdI8 0#32) := by decide

/-! Varuints (95_test_vectors.md V-V1 to V-V22). -/

theorem test_varEncode_300 : varEncode 300#32 = [0xAC#8, 0x02#8] := by decide
theorem test_varEncode_top : varEncode 0xFFFFFFFF#32 = [0xFF#8, 0xFF#8, 0xFF#8, 0xFF#8, 0x0F#8] := by decide
theorem test_varDecode_stops : varDecode [0xAC#8, 0x02#8, 0x99#8] = some (300#32, 2) := by decide
theorem test_varDecode_fifth_continues : varDecode [0x80#8, 0x80#8, 0x80#8, 0x80#8, 0x80#8] = none := by decide
theorem test_varDecode_mod : varDecode [0x80#8, 0x80#8, 0x80#8, 0x80#8, 0x10#8] = some (0#32, 5) := by decide

/-! Frames (95_test_vectors.md V-F3, V-F8). -/

set_option maxRecDepth 4000 in
theorem test_encodeFrame : encodeFrame CrcParams.default 0#7 true 1#8 [0x18#8, 0x02#8] =
    [0x54#8, 0xAB#8, 0x80#8, 0x01#8, 0x02#8, 0x18#8, 0x02#8, 0x22#8, 0x82#8] := by decide

set_option maxRecDepth 4000 in
theorem test_encodeFrame_top_id : encodeFrame CrcParams.default 127#7 true 0x7F#8 [0x10#8, 0x00#8, 0xFF#8] =
    [0x54#8, 0xAB#8, 0xFF#8, 0x7F#8, 0x03#8, 0x10#8, 0x00#8, 0xFF#8, 0x6B#8, 0x29#8] := by decide

/-! Executing each request at a server (43_register_rpc.md R176 to R191). -/

theorem test_exec_wrI8 : nextField (exec (.wrI8 5#32 0x12#8) (serving [] [success])) State.outputs =
    some [.memWrite 5#32 (.i8 0x12#8) 0#32] := by decide
theorem test_exec_wrI8_fails : nextField (exec (.wrI8 5#32 0x12#8) (serving [] [failure])) State.results =
    some [.wres [(5#32, 5#32)]] := by decide
theorem test_exec_wrI16 : nextField (exec (.wrI16 5#32 0x1234#16) (serving [] [success])) State.outputs =
    some [.memWrite 5#32 (.i16 0x1234#16) 0#32] := by decide
theorem test_exec_wrI32 : nextField (exec (.wrI32 300#32 0x12345678#32) (serving [] [success])) State.outputs =
    some [.memWrite 300#32 (.i32 0x12345678#32) 0#32] := by decide
theorem test_exec_wrF32 : nextField (exec (.wrF32 2#32 0x3F800000#32) (serving [] [success])) State.outputs =
    some [.memWrite 2#32 (.f32 0x3F800000#32) 0#32] := by decide
theorem test_exec_wrmI8 : nextField (exec (.wrmI8 5#32 [1#8, 2#8]) (serving [] [failure, success])) State.outputs =
    some [.memWrite 5#32 (.i8 1#8) 5#32, .memWrite 6#32 (.i8 2#8) 0#32] := by decide
theorem test_exec_wrmI8_fails : nextField (exec (.wrmI8 5#32 [1#8, 2#8]) (serving [] [success, failure]))
    State.results = some [.wres [(6#32, 5#32)]] := by decide
theorem test_exec_wrmI16 : nextField (exec (.wrmI16 0#32 [0xBEEF#16]) (serving [] [success])) State.outputs =
    some [.memWrite 0#32 (.i16 0xBEEF#16) 0#32] := by decide
theorem test_exec_wrmI32 : nextField (exec (.wrmI32 10#32 [1#32, 2#32]) (serving [] [success, success]))
    State.outputs = some [.memWrite 10#32 (.i32 1#32) 0#32, .memWrite 11#32 (.i32 2#32) 0#32] := by decide
theorem test_exec_wrmF32_none : nextField (exec (.wrmF32 1#32 []) (serving [] [])) State.outputs = some [] := by
  decide
theorem test_exec_rdI8 : nextField (exec (.rdI8 2#32) (serving [] [success])) State.results =
    some [.rres false .i8 [(2#32, .ok (.i8 0xAA#8))]] := by decide
theorem test_exec_rdI8_fails : nextField (exec (.rdI8 2#32) (serving [] [failure])) State.results =
    some [.rres false .i8 [(2#32, .err 5#32)]] := by decide
theorem test_exec_rdI16 : nextField (exec (.rdI16 2#32) (serving [] [success])) State.results =
    some [.rres false .i16 [(2#32, .ok (.i16 0xBBAA#16))]] := by decide
theorem test_exec_rdI32 : nextField (exec (.rdI32 2#32) (serving [] [success])) State.results =
    some [.rres false .i32 [(2#32, .ok (.i32 0xDDCCBBAA#32))]] := by decide
theorem test_exec_rdF32 : nextField (exec (.rdF32 2#32) (serving [] [success])) State.results =
    some [.rres false .f32 [(2#32, .ok (.f32 0xDDCCBBAA#32))]] := by decide
theorem test_exec_rdmI8 : nextField (exec (.rdmI8 2#32 2#32) (serving [] [success, failure])) State.results =
    some [.rres true .i8 [(2#32, .ok (.i8 0xAA#8)), (3#32, .err 5#32)]] := by decide
theorem test_exec_rdmI16 : nextField (exec (.rdmI16 2#32 1#32) (serving [] [success])) State.results =
    some [.rres true .i16 [(2#32, .ok (.i16 0xBBAA#16))]] := by decide
theorem test_exec_rdmI32 : nextField (exec (.rdmI32 7#32 1#32) (serving [] [failure])) State.results =
    some [.rres true .i32 [(7#32, .err 5#32)]] := by decide
theorem test_exec_rdmF32 : nextField (exec (.rdmF32 0xFFFFFFFF#32 1#32) (serving [] [success])) State.outputs =
    some [.memRead 0xFFFFFFFF#32 .f32 (.ok (.f32 0xDDCCBBAA#32))] := by decide
theorem test_exec_tunC2S : nextField (exec (.tunC2S 0#32 [0x68#8, 0x69#8]) (serving [] [])) State.slots =
    some [{ bound := true, chan := 0#32, inFifo := [0x68#8, 0x69#8], outFifo := [] }, Slot.free] := by decide
theorem test_exec_tunC2S_result : nextField (exec (.tunC2S 9#32 []) (serving [] [])) State.results =
    some [.tres 9#32 0] := by decide

/-! Executing each reply at a client (43_register_rpc.md R192 to R201, 44_tunnel.md R212, 45_client.md R233). -/

theorem test_exec_rplI8 : nextField (exec (.rplI8 2#32 0x7F#8) client) (fun s => s.mentions.reads) =
    some [.val 2#32 (.i8 0x7F#8)] := by decide
theorem test_exec_rplI16 : nextField (exec (.rplI16 3#32 0x1234#16) client) (fun s => s.mentions.reads) =
    some [.val 3#32 (.i16 0x1234#16)] := by decide
theorem test_exec_rplI32 : nextField (exec (.rplI32 128#32 0xDEADBEEF#32) client) (fun s => s.mentions.reads) =
    some [.val 128#32 (.i32 0xDEADBEEF#32)] := by decide
theorem test_exec_rplF32 : nextField (exec (.rplF32 0#32 0x7FC00001#32) client) (fun s => s.mentions.reads) =
    some [.val 0#32 (.f32 0x7FC00001#32)] := by decide
theorem test_exec_rplmI8 : nextField (exec (.rplmI8 2#32 [0x0A#8, 0x0B#8]) client) (fun s => s.mentions.reads) =
    some [.val 2#32 (.i8 0x0A#8), .val 3#32 (.i8 0x0B#8)] := by decide
theorem test_exec_rplmI16 : nextField (exec (.rplmI16 0#32 [1#16, 0xFFFF#16]) client) (fun s => s.mentions.reads) =
    some [.val 0#32 (.i16 1#16), .val 1#32 (.i16 0xFFFF#16)] := by decide
theorem test_exec_rplmI32 : nextField (exec (.rplmI32 10#32 [1#32]) client) (fun s => s.mentions.reads) =
    some [.val 10#32 (.i32 1#32)] := by decide
theorem test_exec_rplmF32 : nextField (exec (.rplmF32 0xFFFFFFFF#32 [0#32]) client) (fun s => s.mentions.reads) =
    some [.val 0xFFFFFFFF#32 (.f32 0#32)] := by decide
theorem test_exec_werr : nextField (exec (.werr 5#32 3#32) client) (fun s => s.mentions.writeErrors) =
    some [(5#32, 3#32)] := by decide
theorem test_exec_rerr : nextField (exec (.rerr 3#32 5#32) client) (fun s => s.mentions.reads) =
    some [.err 3#32 5#32] := by decide
theorem test_exec_tunS2C : nextField (exec (.tunS2C 0#32 [0x6F#8, 0x6B#8]) client) (fun s => s.mentions.tunnel) =
    some [(0#32, [0x6F#8, 0x6B#8])] := by decide

/-! One step of the whole machine (95_test_vectors.md V-DS2, V-DS5, L1-6; 43_register_rpc.md R188 for the reply). -/

theorem test_step_dispatch : nextField (step (serving [0x10#8, 0x05#8, 0x12#8] [success]))
    (fun s => (s.srvState, s.results)) = some (.compose, [.wres []]) := by decide
theorem test_step_unknown : nextField (step (serving [0x10#8, 0x05#8, 0x12#8, 0x30#8] [success]))
    (fun s => (s.stats.unknownSubframe, s.results)) = some (1#32, [.wres []]) := by decide
theorem test_step_tunnel_not_alone : nextField (step (serving [0x40#8, 0x00#8, 0x00#8, 0x18#8, 0x02#8] [success]))
    (fun s => (s.stats.malformedSubframe, s.outputs, s.srvState)) = some (1#32, [], .idle) := by decide

set_option maxRecDepth 4000 in
theorem test_step_compose : nextField
    (step { State.reset with
      srvState := .compose, scanList := [.rdmI8 2#32 3#32]
      results := [.rres true .i8 [(2#32, .ok (.i8 0x0A#8)), (3#32, .err 5#32), (4#32, .ok (.i8 0x0C#8))]] })
    State.replyPayload =
    some [0x24#8, 0x02#8, 0x01#8, 0x0A#8, 0x29#8, 0x03#8, 0x05#8, 0x24#8, 0x04#8, 0x01#8, 0x0C#8] := by decide

/-- A client that awaits the reply L1-6 with its last byte on offer. -/
def replyReady : State :=
  { awaiting [(2#32, .i8)] with
    rxPhase := .crc1, rxSrc := 1#8, rxDst := 0#8, rxPay := [0x20#8, 0x02#8, 0x7F#8], rxCrc := 0xA3#16
    rxBytes := [0x54#8, 0xAB#8, 0x01#8, 0x00#8, 0x03#8, 0x20#8, 0x02#8, 0x7F#8, 0xA3#8]
    inputs := [⟨.rxByte 0x2E#8, none⟩] }

set_option maxRecDepth 8000 in
theorem test_step_reply : nextField (step replyReady) (fun s => (s.cliState, s.cliResult)) =
    some (.idle, some { status := .ok, reads := [.val 2#32 (.i8 0x7F#8)], writeErrors := [], tunnel := none }) := by
  decide

/-! An event between two steps of a frame (70_reset_and_hazards.md R286, 20_memory.md R58; log entry 4): a `ConfigWrite`
that comes before `COMPOSE` is held while `DISPATCH` runs and taken then, so the reply carries the new id. -/

/-- A server in `DISPATCH` with a read, and a `ConfigWrite` on offer before `COMPOSE`. -/
def rewritten : State :=
  { serving [0x18#8, 0x02#8] [success] with inputs := [⟨.configWrite 5#8, some .compose⟩] }

theorem test_step_event_held : nextField (step rewritten) (fun s => (s.srvState, s.nodeId, s.inputs)) =
    some (.compose, 1#8, rewritten.inputs) := by decide

theorem test_step_event_between : nextField (step { rewritten with srvState := .compose })
    (fun s => (s.srvState, s.nodeId, s.inputs)) = some (.compose, 5#8, []) := by decide

/-! The next instruction placed and run (log entries 9 and 10). -/

theorem test_withFetchWord : nextField (step (({ State.reset with answers := [success] }).withFetchWord 24 0x120510))
    (fun s => (s.outputs, s.srvState)) = some ([.memWrite 5#32 (.i8 0x12#8) 0#32], .compose) := by decide

/-! Premises that are met. One theorem for each statement with premises; where a statement has several clauses, each
clause's premises. -/

/-- The frame V-F3 of 95_test_vectors.md. -/
def goodFrame : List Byte := [0x54#8, 0xAB#8, 0x80#8, 0x01#8, 0x02#8, 0x18#8, 0x02#8, 0x22#8, 0x82#8]

/-- A server in `VALIDATE` with V-F3 to this destination, received with this checksum. -/
def validating (dst : Byte) (crc : U16) : State :=
  { State.reset with
    srvState := .validate, rxPhase := .crc1, rxSrc := 0x80#8, rxDst := dst, rxPay := [0x18#8, 0x02#8], rxCrc := crc
    rxBytes := [0x54#8, 0xAB#8, 0x80#8, dst, 0x02#8, 0x18#8, 0x02#8, crc.setWidth 8, (crc >>> 8).setWidth 8] }

theorem test_witness_DecodeOfEncode : (Instr.wrmI8 0xFFFFFFFF#32 [1#8]).wf 64 = true ∧
    (Instr.rdmI32 0#32 64#32).wf 64 = true ∧ (Instr.tunC2S 0xFFFFFFFF#32 []).wf 64 = true := by decide

theorem test_witness_VaruintDecodesSum : ([] : List Byte).length ≤ 4 ∧ (0x7F#8).msb = false ∧
    [0xFF#8, 0x80#8, 0x80#8, 0xFF#8].length ≤ 4 ∧ (∀ b ∈ [0xFF#8, 0x80#8, 0x80#8, 0xFF#8], b.msb = true) := by decide

theorem test_witness_DecodedSubframeIsWellFormed :
    decode 64 [0x16#8, 0xFF#8, 0xFF#8, 0xFF#8, 0xFF#8, 0x0F#8, 0x01#8, 0x01#8, 0x00#8, 0x00#8, 0x00#8, 0x18#8] =
      .ok (.wrmI32 0xFFFFFFFF#32 [1#32]) [0x18#8] := by decide

theorem test_witness_TagClassDecidesDirection : varDecode [0x1F#8] = some (0x1F#32, 1) ∧
    varDecode [0x29#8] = some (0x29#32, 1) ∧ varDecode [0x2A#8] = some (0x2A#32, 1) ∧
    tagClass 0x1F = .request ∧ tagClass 0x29 = .reply ∧ tagClass 0x2A = .unknown ∧ tagClass 0x0F = .unknown ∧
    tagClass 0x10 = .request ∧ tagClass 0x20 = .reply ∧ tagClass 0x3F = .unknown ∧ tagClass 0x40 = .request ∧
    tagClass 0x41 = .reply ∧ tagClass 0x42 = .unknown := by decide

theorem test_witness_TagIsIdentifiedByValue : varDecode [0x90#8, 0x00#8] = some (0x10#32, [0x90#8, 0x00#8].length) := by
  decide

theorem test_witness_DecodeOfEncodedFrame : Config.default.bufferSize < 2 ^ 32 ∧
    (List.replicate 64 0#8).length ≤ Config.default.bufferSize := by decide

theorem test_witness_DamagedByteFailsChecksum : Config.default.bufferSize < 2 ^ 32 ∧
    [0x18#8, 0x02#8].length ≤ Config.default.bufferSize ∧ Config.default.crc.poly.getLsbD 0 = true ∧
    4 + vlen (BitVec.ofNat 32 [0x18#8, 0x02#8].length) ≤ 8 ∧ 8 < goodFrame.length ∧ goodFrame[8]? ≠ some 0x83#8 ∧
    goodFrame[2]? ≠ some 0x81#8 ∧ goodFrame[3]? ≠ some 0x09#8 := by decide

theorem test_witness_DamagedByteFailsChecksum_frame : encodeFrame Config.default.crc 0#7 true 1#8 [0x18#8, 0x02#8] =
    goodFrame := test_encodeFrame

set_option maxRecDepth 8000 in
theorem test_witness_ReceiverAgreesWithTryDecode : State.reset.cfg.role = .server ∧ State.reset.srvState = .idle ∧
    State.reset.rxPhase = .h0 ∧ goodFrame.take 2 = [0x54#8, 0xAB#8] ∧
    (∀ k, k < goodFrame.length → tryDecode State.reset.cfg (goodFrame.take k) = .incomplete) ∧
    tryDecode State.reset.cfg goodFrame = .frame 0#7 true 1#8 [0x18#8, 0x02#8] ∧
    tryDecode State.reset.cfg (goodFrame.take 8) = .incomplete ∧
    tryDecode State.reset.cfg (goodFrame.set 8 0x83#8) = .error .checksumMismatch ∧
    (∀ k, k < 5 → tryDecode State.reset.cfg ([0x54#8, 0xAB#8, 0x80#8, 0x01#8, 0x41#8].take k) = .incomplete) ∧
    tryDecode State.reset.cfg [0x54#8, 0xAB#8, 0x80#8, 0x01#8, 0x41#8] = .error .receiveOverrun := by decide

set_option maxRecDepth 8000 in
/-- The client's run: V-F3 and its prefixes and damage, an overrun; the clause on each byte of `H0` and `H1`. -/
theorem test_witness_ReceiverAgreesWithTryDecode_client : client.cfg.role = .client ∧ client.rxPhase = .h0 ∧
    (goodFrame.take 8 ++ [0x82#8]).take 2 = [0x54#8, 0xAB#8] ∧
    (∀ k, k ≤ (goodFrame.take 8).length →
      tryDecode client.cfg ((goodFrame.take 8 ++ [0x82#8]).take k) = .incomplete) ∧
    tryDecode client.cfg (goodFrame.take 8 ++ [0x82#8]) = .frame 0#7 true 1#8 [0x18#8, 0x02#8] ∧
    tryDecode client.cfg (goodFrame.take 8 ++ [0x83#8]) = .error .checksumMismatch ∧
    tryDecode client.cfg (goodFrame.take 4 ++ [0x41#8]) = .error .receiveOverrun ∧
    tryDecode client.cfg (goodFrame.take 1 ++ [0xAB#8]) = .incomplete ∧
    ({ client with rxPhase := .h1 } : State).rxPhase = .h1 ∧ (0x54#8 : Byte) ≠ 0xAB#8 ∧ (0x55#8 : Byte) ≠ 0x54#8 := by
  decide

theorem test_witness_SentFrameIsAccepted : Config.default.wf = true ∧ State.reset.cfg.role = .server ∧
    State.reset.srvState = .idle ∧ State.reset.rxPhase = .h0 ∧ (1#8 : Byte) = State.reset.nodeId ∧
    (List.replicate 64 0#8).length ≤ State.reset.cfg.bufferSize ∧
    ({ Config.default with broadcastId := some 0x7F#8 } : Config).wf = true := by decide

theorem test_witness_ValidateChecksInOrder (dst : Byte) (crc : U16) : (validating dst crc).cfg.role = .server ∧
    (validating dst crc).srvState = .validate ∧ noEarlyEvent (validating dst crc) :=
  ⟨rfl, rfl, noEarlyEvent_of_nil rfl⟩

set_option maxRecDepth 8000 in
theorem test_witness_ValidateChecksInOrder_clauses :
    frameCrc CrcParams.default [0x54#8, 0xAB#8, 0x80#8, 0x01#8, 0x02#8, 0x18#8, 0x02#8] = 0x8222#16 ∧
    (validating 1#8 0x8222#16).rxDst = (validating 1#8 0x8222#16).nodeId ∧
    frameCrc CrcParams.default [0x54#8, 0xAB#8, 0x80#8, 0x09#8, 0x02#8, 0x18#8, 0x02#8] = 0x8F60#16 ∧
    ¬((validating 9#8 0x8F60#16).rxDst = (validating 9#8 0x8F60#16).nodeId ∨
      (validating 9#8 0x8F60#16).cfg.broadcastId = some (validating 9#8 0x8F60#16).rxDst) := by decide

theorem test_witness_RxCloseDropsPartialFrame : client.cfg.role = .client ∧
    (validating 1#8 0#16).srvState = .validate ∧ (serving [] []).srvState = .dispatch := by decide

theorem test_witness_ReceiveStreamKeepsItsOrder : ∃ t,
    step { State.reset with inputs := offerBytes goodFrame } = .next t ∧
      t.inputs = offerBytes (goodFrame.drop 1) := ⟨_, rfl, rfl⟩

/-- For `WriteSingleRuns`, `WriteMultipleRuns` (with the last register at the top), `ReadSingleRuns`,
`ReadMultipleRuns` and `TunnelPollRuns`. -/
theorem test_witness_exec_at_server : (serving [] [success]).cfg.role = .server ∧
    (0xFFFFFFFF#32 : U32).toNat + 1 ≤ 2 ^ 32 := by decide

/-- For `ReplySubframesAddEntries`, `WrongDirectionIsMalformed` and `CoverageResolvesRequest`. -/
theorem test_witness_exec_at_client : client.cfg.role = .client := by decide

theorem test_witness_TunnelPollRuns : findSlot State.reset.slots 7#32 = some 0 ∧
    findSlot [tunnelSlot] 7#32 = some 0 ∧ findSlot [tunnelSlot] 8#32 = none := by decide

theorem test_witness_WrongDirectionIsMalformed : (Instr.rplI8 0#32 0#8).isRequest = false ∧
    (Instr.tunC2S 0#32 []).isRequest = true := by decide

theorem test_witness_StepRunsServedSubframe : noEarlyEvent (serving [0x40#8, 0x00#8, 0x00#8] []) ∧
    decode 64 [0x40#8, 0x00#8, 0x00#8] = .ok (.tunC2S 0#32 []) [] ∧
    findSlot (serving [0x40#8, 0x00#8, 0x00#8] []).slots 0#32 ≠ none :=
  ⟨noEarlyEvent_of_nil rfl, by decide, by decide⟩

set_option maxRecDepth 8000 in
theorem test_witness_StepRunsRepliedSubframe : replyReady.cfg.role = .client ∧ replyReady.cliState = .await ∧
    replyReady.cliReq.map CliReq.dest = some 1#8 ∧ replyReady.rxPhase = .crc1 ∧
    replyReady.inputs = ⟨.rxByte 0x2E#8, none⟩ :: [] ∧
    frameCrc replyReady.cfg.crc (replyReady.rxBytes.take (replyReady.rxBytes.length - 1)) =
      setCrcHigh replyReady.rxCrc 0x2E#8 ∧
    replyReady.rxDst = replyReady.nodeId ∧ idByte (sourceId replyReady.rxSrc) = 1#8 ∧
    decode replyReady.cfg.bufferSize replyReady.rxPay = .ok (.rplI8 2#32 0x7F#8) [] := by decide

/-- No subframe at all, two subframes, and what may follow a subframe: an unknown tag, a malformed subframe. -/
theorem test_witness_StepRunsRepliedSubframe_lists : decodesTo 64 [] [] [] ∧
    decodesTo 64 [0x20#8, 0x02#8, 0x7F#8, 0x28#8, 0x05#8, 0x03#8] [.rplI8 2#32 0x7F#8, .werr 5#32 3#32] [] ∧
    decodesTo 64 [0x20#8, 0x02#8, 0x7F#8, 0x30#8] [.rplI8 2#32 0x7F#8] [0x30#8] ∧
    decode 64 [0x30#8] = .unknown 0x30#32 ∧ decodeAt .client 64 [0x18#8, 0x02#8] = .malformed .direction ∧
    (Instr.rplI8 2#32 0x7F#8).isRequest = false ∧ (Instr.werr 5#32 3#32).isRequest = false :=
  ⟨rfl, ⟨_, rfl, _, rfl, rfl⟩, ⟨_, rfl, rfl⟩, by decide, by decide, rfl, rfl⟩

theorem test_witness_DispatchRunsWholePayload : noEarlyEvent (serving (payloadOf [.rdI8 2#32, .rdmI8 0#32 64#32]) []) ∧
    (∀ i ∈ [Instr.rdI8 2#32, .rdmI8 0#32 64#32], i.isRequest = true ∧ i.wf 64 = true) ∧
    (∀ i ∈ [Instr.rdI8 2#32, .rdmI8 0#32 64#32], pollChannel i = none) :=
  ⟨noEarlyEvent_of_nil rfl, by decide, by decide⟩

theorem test_witness_UnknownTagRunsPrefix : decode 64 [0x30#8] = .unknown 0x30#32 ∧
    (serving (payloadOf [.rdI8 2#32] ++ [0x30#8]) []).accPayload = payloadOf [.rdI8 2#32] ++ [0x30#8] := by decide

theorem test_witness_MalformedPayloadHasNoEffect :
    decodeAt .server 64 [0x20#8, 0x02#8, 0x7F#8] = .malformed .direction ∧
    decodeAt .server 64 [0x10#8] = .malformed .varuint := by decide

theorem test_witness_TunnelPollMustBeAloneWithSlot :
    (∃ i ∈ [Instr.tunC2S 0#32 [], .rdI8 2#32], ∃ ch, pollChannel i = some ch ∧
      1 < [Instr.tunC2S 0#32 [], .rdI8 2#32].length) ∧
    pollChannel (.tunC2S 8#32 []) = some 8#32 ∧ findSlot [tunnelSlot] 8#32 = none :=
  ⟨⟨_, List.mem_cons_self, 0#32, rfl, by decide⟩, rfl, by decide⟩

theorem test_witness_ReplyIsSentWhenNeeded : noEarlyEvent { State.reset with srvState := .compose, accRr := true } ∧
    isRead (.rdmF32 0#32 0#32) = true ∧ pollChannel (.tunC2S 0#32 []) = some 0#32 :=
  ⟨noEarlyEvent_of_nil rfl, rfl, rfl⟩

theorem test_witness_NoReplyDropsResults : noEarlyEvent { State.reset with srvState := .compose } ∧
    ¬(State.reset.accRr = true ∨ ∃ i ∈ State.reset.scanList, isRead i = true ∨ ∃ ch, pollChannel i = some ch) :=
  ⟨noEarlyEvent_of_nil rfl, by simp [State.reset, State.resetWith]⟩

theorem test_witness_ComposedSubframesFit : 16 ≤ 16 ∧ 16 ≤ 2 ^ 28 - 1 ∧ 16 ≤ 2 ^ 28 - 1 ∧
    (composeAll 16 [.rres true .i8 [(2#32, .ok (.i8 0x0A#8)), (3#32, .err 5#32)]] []).1 ≠ [] := by decide

theorem test_witness_ReplyMentionsEveryRead : (serving [] [success, failure]).cfg.wf = true ∧
    (serving [] [success, failure]).results = [] ∧
    ∃ t, execAll [.rdI8 2#32, .rdI8 2#32] (serving [] [success, failure]) = .next t ∧
      composedReply t = [.rplI8 2#32 0xAA#8, .rerr 2#32 5#32] := ⟨by decide, rfl, _, rfl, by decide⟩

theorem test_witness_ReplyCarriesAnswersUnchanged : ∃ t u,
    execAll [.rdI8 2#32, .wrI8 2#32 0#8] (serving [] [success, failure]) = .next t ∧
      execAll (composedReply t) client = .next u ∧ u.mentions.writeErrors = [(2#32, 5#32)] :=
  ⟨_, _, rfl, rfl, rfl⟩

theorem test_witness_WholeReplyCoversRequest : ∃ t u,
    execAll [.tunC2S 7#32 []] (serving [] []) = .next t ∧ execAll (composedReply t) client = .next u ∧
      u.mentions.tunnel = [(7#32, [])] ∧ client.mentions = Mentions.empty :=
  ⟨_, _, rfl, rfl, rfl, rfl⟩

theorem test_witness_ReplyPayloadParsesBack : ∃ t,
    execAll [.rdmI8 0xFFFFFFFF#32 1#32] (serving [] [success]) = .next t ∧
      (Instr.rdmI8 0xFFFFFFFF#32 1#32).wf 64 = true := ⟨_, rfl, by decide⟩

theorem test_witness_ServerToClientTakesWhatFits : [tunnelSlot][0]? = some tunnelSlot ∧
    ([Slot.free, tunnelSlot] : List Slot)[1]? = some tunnelSlot := by decide

theorem test_witness_SendEndsInIdle :
    ({ State.reset with srvState := .send, inputs := [⟨.txDone false, none⟩] } : State).srvState = .send := by decide

theorem test_witness_TunnelApplicationOperations : boundSlot [Slot.free, tunnelSlot] 7#32 = some 1 ∧
    boundSlot [Slot.free, tunnelSlot] 0#32 = none ∧ findSlot [Slot.free, tunnelSlot] 0#32 = some 0 := by decide

theorem test_witness_ChannelsDoNotInterfere : tunnelSlot.bound = true ∧ tunnelSlot.chan ≠ 8#32 ∧
    ∃ t, handle (.appAlloc 8#32) { State.reset with slots := [tunnelSlot, Slot.free] } = .next t :=
  ⟨rfl, by decide, _, rfl⟩

/-- The last counter, index 6, is ignored on a write; index 7 is refused (10_state.md R26). -/
theorem test_witness_ControlRegisterSpace :
    nextField (handle (.controlWrite 6 9#32) State.reset) State.outputs = some [.controlWrite true] ∧
    nextField (handle (.controlWrite 7 9#32) State.reset) State.outputs = some [.controlWrite false] ∧
    nextField (handle (.controlWrite 1 9#32) State.reset) State.stats = some Stats.zero := by decide

theorem test_witness_OfferedEventIsTaken : accepts State.reset (.rxByte 0#8) = true ∧
    accepts (validating 1#8 0#16) .rxClose = true ∧ accepts client .timeout = true ∧
    rewritten.inputs.head?.map Offer.before = some (some ({ rewritten with srvState := .compose } : State).srvState) ∧
    accepts rewritten (.configWrite 5#8) = true := by decide

theorem test_witness_RequestIsCheckedAndSent :
    (awaiting []).cliState ≠ .idle ∧ client.cliState = .idle ∧ badRange 64 (.rdmI8 0#32 65#32) = true ∧
    badRange 64 (.rdmI8 0#32 64#32) = false ∧ badRange 64 (.wrmI8 0xFFFFFFFF#32 [0#8, 0#8]) = true ∧
    64 < (payloadOf [.wrmI8 0#32 (List.replicate 62 0#8)]).length ∧
    (payloadOf [.wrmI8 0#32 (List.replicate 61 0#8)]).length ≤ 64 := by decide

/-- The boundaries of the range clause: the last register, one past it, the largest count and one more. -/
theorem test_witness_RequestIsCheckedAndSent_ranges :
    writeRange (.wrmI16 0xFFFFFFFE#32 [0#16, 0#16]) = some (0xFFFFFFFE#32, 2) ∧
    ¬2 ^ 32 - 1 < (0xFFFFFFFE#32 : U32).toNat + 2 - 1 ∧ 2 ^ 32 - 1 < (0xFFFFFFFF#32 : U32).toNat + 2 - 1 ∧
    readRange (.rdmF32 0#32 65#32) = some (0#32, 65) ∧ State.reset.cfg.bufferSize < 65 ∧
    ¬State.reset.cfg.bufferSize < 64 ∧ writeRange (.rdmF32 0#32 65#32) = none := by decide

theorem test_witness_SentAndTimeoutResolve : client.cfg.role = .client ∧ (awaiting []).cliState = .await ∧
    client.cliState ≠ .await ∧ ({ awaiting [] with cliState := .send } : State).cliReq ≠ none := by decide

set_option maxRecDepth 8000 in
theorem test_witness_ClientChecksInOrder :
    frameCrc CrcParams.default [0x54#8, 0xAB#8, 0x01#8, 0x00#8, 0x00#8] = setCrcHigh 0x0044#16 0x52#8 ∧
    frameCrc CrcParams.default [0x54#8, 0xAB#8, 0x01#8, 0x00#8, 0x00#8] ≠ setCrcHigh 0x0044#16 0x53#8 ∧
    idByte (sourceId 0x01#8) = 1#8 ∧ idByte (sourceId 0x02#8) ≠ 1#8 ∧
    (walkPayload .client 64 [0x18#8, 0x02#8]).1 = .malformed := by decide

theorem test_witness_CoverageMatchesAsMultiset :
    ([(2#32, .i8 0#8), (3#32, .i8 0#8)].map fun e => ReadEntry.val e.1 e.2) =
      [.val 2#32 (.i8 0#8), .val 3#32 (.i8 0#8)] ∧
    coverage { dest := 1#8, expectReply := true, expectReads := [(3#32, .i8), (2#32, .i8)], expectTunnel := none }
      { reads := [.val 2#32 (.i8 0#8), .val 3#32 (.i8 0#8)], writeErrors := [], tunnel := [] } = .ok := by decide

/-- The loop with a read error, which answers the first read of its register, and an entry that answers none. -/
theorem test_witness_CoverageMatchesAsMultiset_loop : answersRead (.err 2#32 5#32) (2#32, .i16) ∧
    (∀ x ∈ [((3#32 : U32), Rep.i8)], ¬answersRead (.err 2#32 5#32) x) ∧
    (∀ x ∈ [((2#32 : U32), Rep.i8)], ¬answersRead (.val 2#32 (.i16 0#16)) x) := by
  simp [answersRead, Value.rep]

/-- The tunnel half (45_client.md R234): data as asked, of another channel, twice, unasked, and absent. -/
theorem test_witness_CoverageMatchesAsMultiset_tunnel :
    let asked : Option U32 → CliReq := fun ch =>
      { dest := 1#8, expectReply := true, expectReads := [], expectTunnel := ch }
    let gave : List (U32 × List Byte) → Mentions := fun l => { reads := [], writeErrors := [], tunnel := l }
    coverage (asked (some 7#32)) (gave [(7#32, [1#8])]) = .ok ∧
      coverage (asked (some 7#32)) (gave [(8#32, [1#8])]) = .malformed ∧
      coverage (asked (some 7#32)) (gave [(7#32, []), (7#32, [])]) = .malformed ∧
      coverage (asked none) (gave [(7#32, [])]) = .malformed ∧
      coverage (asked (some 7#32)) (gave []) = .missing := by decide

/-- For `ResetValues` and `ResetHasInvariant`, with and without a stored id. -/
theorem test_witness_ResetValues : Config.default.wf = true ∧ State.reset.nodeId = 1#8 ∧ client.nodeId = 0#8 ∧
    client.cfg.wf = true ∧ client.cfg.storedId = some 0#8 := by decide

theorem test_reset_inv : State.reset.Inv := by
  unfold State.Inv
  decide

theorem test_witness_StepKeepsInvariant : State.reset.Inv ∧
    ∃ t, step { State.reset with inputs := offerBytes goodFrame } = .next t ∧ t.rxPhase = .h1 :=
  ⟨test_reset_inv, _, rfl, rfl⟩

theorem test_witness_NothingStopsTheBlock : noEarlyEvent (validating 1#8 0#16) ∧ noEarlyEvent (serving [] []) ∧
    noEarlyEvent { State.reset with srvState := .compose } :=
  ⟨noEarlyEvent_of_nil rfl, noEarlyEvent_of_nil rfl, noEarlyEvent_of_nil rfl⟩

/-- For `OnlyResetClears` and `NodeIdIsNotReachableFromWire`. -/
theorem test_witness_OnlyResetClears : noResetOffered State.reset ∧ noIdWriteOffered State.reset ∧
    (∃ t, step State.reset = .next t) ∧ tunnelSlot.bound = true :=
  ⟨by simp [noResetOffered, State.reset, State.resetWith],
    by simp [noIdWriteOffered, noResetOffered, State.reset, State.resetWith], ⟨_, rfl⟩, rfl⟩

theorem test_witness_ServerIsCalledOnlyInDispatch : State.reset.srvState ≠ .dispatch ∧
    client.cfg.role = .client ∧ ∃ t, step client = .next t := ⟨by decide, rfl, _, rfl⟩

end Sys2Proof.Tests
end

section
/-! PROOF. Counters and the control register space (10_state.md R21 to R26; 60_exceptions.md R250). -/

namespace Sys2Proof.Machine

open Sys2Proof

/-- `NODE_ID` takes bits 6 to 0 of the byte written (10_state.md R21, R22). -/
theorem nodeIdOf_toNat (v : Byte) : (nodeIdOf v).toNat = v.toNat % 128 := by
  simp only [nodeIdOf, idByte, BitVec.toNat_setWidth]
  omega

theorem nodeIdOf_msb (v : Byte) : (nodeIdOf v).msb = false := by
  rw [BitVec.msb_eq_false_iff_two_mul_lt, nodeIdOf_toNat]
  omega

/-- The counters by index, in the order of 10_state.md R23; there is none from index 6 on (R25). -/
theorem statIndex_get (st : Stats) (k : Nat) :
    (statIndex k).map st.get =
      ([st.wrongId, st.checksumMismatch, st.receiveOverrun, st.unknownSubframe, st.missingSubframe,
        st.malformedSubframe] : List U32)[k]? :=
  match k with
  | 0 | 1 | 2 | 3 | 4 | 5 => rfl
  | _ + 6 => rfl

theorem statIndex_isSome (k : Nat) : (statIndex k).isSome = decide (k < 6) :=
  match k with
  | 0 | 1 | 2 | 3 | 4 | 5 => rfl
  | k + 6 => (decide_eq_false (show ¬k + 6 < 6 by omega)).symm

/-- The control registers: `NODE_ID` before the counters (10_state.md R26). -/
theorem controlValue_eq (s : State) (i : Nat) :
    controlValue s i =
      ([s.nodeId.setWidth 32, s.stats.wrongId, s.stats.checksumMismatch, s.stats.receiveOverrun,
        s.stats.unknownSubframe, s.stats.missingSubframe, s.stats.malformedSubframe] : List U32)[i]? :=
  match i with
  | 0 => rfl
  | i + 1 => statIndex_get s.stats i

/-- A write to a counter changes nothing; only an index above 6 is refused. -/
theorem controlWrite_counter (i : Nat) (v : U32) (s : State) (hi : 1 ≤ i) :
    controlWrite i v s = s.emit (.controlWrite (decide (i ≤ 6))) := by
  obtain ⟨k, rfl⟩ := Nat.exists_eq_add_of_le' hi
  rw [controlWrite, statIndex_isSome, decide_eq_decide.2 (show k < 6 ↔ k + 1 ≤ 6 by omega)]

/-- Settles O52: every error kind takes its count through `Stats.bump`. -/
theorem errorCountsExactlyOne : Obligations.ErrorCountsExactlyOne := by
  intro s k j
  rw [State.takeError_stats, Stats.get_bump, Stats.get_bump, if_pos rfl]
  exact ⟨satInc_toNat _, fun hj => if_neg hj⟩

/-- Settles O45, one clause for each operation on the config, stats and control register ports. -/
theorem controlRegisterSpace : Obligations.ControlRegisterSpace := by
  intro s
  refine ⟨fun v => ⟨nodeIdOf v, nodeIdOf_toNat v, rfl⟩, rfl, fun k => ?_, fun i => ?_, fun v => ?_, fun i v hi => ?_⟩
  · rw [← statIndex_get]
    rfl
  · rw [← controlValue_eq]
    rfl
  · refine ⟨nodeIdOf (v.setWidth 8), ?_, rfl⟩
    rw [nodeIdOf_toNat, BitVec.toNat_setWidth]
    omega
  · simp only [handle, controlWrite_counter i v s hi]
    rfl

end Sys2Proof.Machine
end

section
/-! PROOF. Which event a step takes (10_state.md R38). -/

namespace Sys2Proof.Machine

open Sys2Proof

/-- The first offer is taken where it can occur: nothing is held before it. -/
theorem takeOffer_head {s : State} {o : Offer} {rest : List Offer} (ha : accepts s o.event = true) :
    takeOffer s false (o :: rest) = some (o.event, rest) := by
  simp [takeOffer, ha]

theorem takeEarly_cons {s : State} {o : Offer} {rest : List Offer} (hi : s.inputs = o :: rest) :
    takeEarly s = if o.before = some s.srvState ∧ accepts s o.event = true then some (o.event, rest) else none := by
  simp [takeEarly, hi]

/-- Where no internal action is enabled, the engine's step is the one on the next event. -/
theorem engineStep_eq_eventStep {s : State}
    (h : s.cfg.role = .client ∨ s.srvState = .idle ∨ s.srvState = .accum ∨ s.srvState = .send) :
    engineStep s = eventStep s := by
  unfold engineStep
  rcases h with h | h | h | h
  · rw [h]
  all_goals cases s.cfg.role <;> simp only [h]

/-- Executing subframes leaves the offers (10_state.md R38: no event is taken by an internal action). -/
theorem execAll_inputs {l : List Instr} {s t : State} (h : execAll l s = .next t) : t.inputs = s.inputs :=
  execAll_keeps (P := fun u => u.inputs = s.inputs)
    (fun _ _ _ _ hu hx => by
      obtain ⟨-, -, -, -, -, -, -, -, -, -, -, -, -, -, hi⟩ := exec_frame hx
      exact hi.trans hu)
    rfl h

@[simp] theorem toCompose_inputs (s : State) : (toCompose s).inputs = s.inputs := by
  unfold toCompose
  split <;> rfl

theorem validateStep_inputs (s : State) : (validateStep s).inputs = s.inputs := by
  unfold validateStep
  split
  · split
    · rfl
    · exact State.takeError_inputs ..
  · exact State.takeError_inputs ..

theorem composeStep_inputs (s : State) : (composeStep s).inputs = s.inputs := by
  unfold composeStep
  split <;> rfl

theorem dispatchStep_inputs {s t : State} (h : dispatchStep s = .next t) : t.inputs = s.inputs := by
  obtain ⟨-, hd⟩ | ⟨u, hu, ⟨-, hd⟩ | ⟨-, hd⟩⟩ := dispatchStep_cases s <;> rw [hd] at h <;> cases h
  · exact State.takeError_inputs ..
  all_goals have hx := execAll_inputs hu
  · exact (toCompose_inputs u).trans hx
  · exact (toCompose_inputs _).trans ((State.takeError_inputs ..).trans hx)

/-- A step takes an event that can occur, or leaves every offer where it is. -/
theorem step_takes_or_keeps {s t : State} (h : step s = .next t) :
    t.inputs = s.inputs ∨
      ∃ a o b, s.inputs = a ++ o :: b ∧ accepts s o.event = true ∧
        step s = handle o.event { s with inputs := a ++ b } := by
  cases step_cases s with
  | event e a b o hi he ha ho =>
    subst he
    exact .inr ⟨a, o, b, hi, ha, ho⟩
  | validate _ _ ho =>
    cases ho.symm.trans h
    exact .inl (validateStep_inputs s)
  | dispatch _ _ ho => exact .inl (dispatchStep_inputs (ho.symm.trans h))
  | compose _ _ ho =>
    cases ho.symm.trans h
    exact .inl (composeStep_inputs s)
  | wait ho =>
    cases ho.symm.trans h
    exact .inl rfl

/-- The first offer is taken where it can occur and no internal action comes before it. -/
theorem step_takes_head {s : State} {o : Offer} {rest : List Offer} (hi : s.inputs = o :: rest)
    (ha : accepts s o.event = true)
    (h : o.before = some s.srvState ∨ s.cfg.role = .client ∨ s.srvState = .idle ∨ s.srvState = .accum ∨
      s.srvState = .send) :
    step s = handle o.event { s with inputs := rest } := by
  unfold step blockStep
  rw [takeEarly_cons hi]
  by_cases hb : o.before = some s.srvState
  · rw [if_pos ⟨hb, ha⟩]
    rfl
  · rw [if_neg fun hc => hb hc.1]
    have he : engineStep s = eventStep s := engineStep_eq_eventStep (h.resolve_left hb)
    simp only [he, eventStep, hi, takeOffer_head ha, takeEvent]

/-! The column "accepted in" of 10_state.md R38. -/

theorem receiveOpen_iff (s : State) :
    receiveOpen s = true ↔ s.cfg.role = .client ∨ s.srvState = .idle ∨ s.srvState = .accum := by
  unfold receiveOpen
  cases s.cfg.role <;> simp

theorem txPending_iff (s : State) :
    txPending s = true ↔
      (s.cfg.role = .server ∧ s.srvState = .send) ∨ (s.cfg.role = .client ∧ s.cliState = .send) := by
  unfold txPending
  cases s.cfg.role <;> simp

theorem appOpen_iff (s : State) :
    appOpen s = true ↔ s.cfg.role = .server ∧ s.srvState ≠ .dispatch ∧ s.srvState ≠ .compose := by
  unfold appOpen
  cases s.cfg.role <;> simp

theorem callerOpen_iff (s : State) : callerOpen s = true ↔ s.cfg.role = .client := by
  unfold callerOpen
  cases s.cfg.role <;> simp

theorem accepts_request_iff (s : State) (req : Request) :
    accepts s (.request req) = true ↔ s.cfg.role = .client ∧ ∀ i ∈ req.subs, i.isRequest = true := by
  simp only [accepts, Bool.and_eq_true, callerOpen_iff, List.all_eq_true]

/-- Settles O46: the offer taken, the only way of taking one, and the table of R38 by its four ports. -/
theorem offeredEventIsTaken : Obligations.OfferedEventIsTaken := by
  refine ⟨fun s o rest hi ha h => step_takes_head hi ha h, fun s t h => step_takes_or_keeps h, fun s => ?_⟩
  have happ : ∀ e, ((∃ ch, e = .appAlloc ch) ∨ (∃ ch n, e = .appRead ch n) ∨ ∃ ch bytes, e = .appWrite ch bytes) →
      (accepts s e = true ↔ s.cfg.role = .server ∧ s.srvState ≠ .dispatch ∧ s.srvState ≠ .compose) := by
    rintro e (⟨ch, rfl⟩ | ⟨ch, n, rfl⟩ | ⟨ch, bytes, rfl⟩) <;> exact appOpen_iff s
  exact ⟨fun _ => receiveOpen_iff s, rfl, fun _ => txPending_iff s, happ, fun _ => rfl, rfl, fun _ => rfl,
    fun _ => rfl, fun _ _ => rfl, accepts_request_iff s, callerOpen_iff s, callerOpen_iff s, fun _ => rfl⟩

end Sys2Proof.Machine
end

section
/-! PROOF. What the operations on the tunnel slots keep (10_state.md R33, 44_tunnel.md R210): their number, the
capacity of each FIFO, one slot for a channel, and every binding. -/

namespace Sys2Proof.Machine

open Sys2Proof

theorem Slot.ok_iff (capacity : Nat) (sl : Slot) :
    sl.ok capacity = true ↔ sl.inFifo.length ≤ capacity ∧ sl.outFifo.length ≤ capacity ∧
      (sl.bound = true ∨ sl.inFifo = [] ∧ sl.outFifo = []) := by
  simp [Slot.ok, and_assoc]

theorem State.slotsOk_iff (s : State) :
    s.slotsOk = true ↔ s.slots.length = (resetSlots s.cfg).length ∧
      (∀ sl ∈ s.slots, sl.ok s.cfg.tunnelCapacity = true) ∧ (boundChannels s.slots).Nodup := by
  simp [State.slotsOk, and_assoc]

/-- Slot `i` is bound to channel `ch`: what a `TRES` record of the two says (42_dispatcher.md R151). -/
def bindsAt (slots : List Slot) (ch : U32) (i : Nat) : Prop :=
  ∃ sl, slots[i]? = some sl ∧ sl.holds ch = true

theorem recordOk_tres_iff (slots : List Slot) (ch : U32) (i : Nat) :
    recordOk slots (.tres ch i) = true ↔ bindsAt slots ch i := by
  cases h : slots[i]? <;> simp [bindsAt, recordOk, h]

/-- What an operation on the slots leaves: slots as good as before it, and every binding. -/
structure SlotsKept (capacity : Nat) (old new : List Slot) : Prop where
  length : new.length = old.length
  ok : (∀ sl ∈ old, sl.ok capacity = true) → ∀ sl ∈ new, sl.ok capacity = true
  nodup : (boundChannels old).Nodup → (boundChannels new).Nodup
  binds : ∀ ch i, bindsAt old ch i → bindsAt new ch i

theorem SlotsKept.refl (capacity : Nat) (slots : List Slot) : SlotsKept capacity slots slots :=
  ⟨rfl, id, id, fun _ _ => id⟩

theorem SlotsKept.trans {capacity : Nat} {a b c : List Slot} (hab : SlotsKept capacity a b)
    (hbc : SlotsKept capacity b c) : SlotsKept capacity a c :=
  ⟨hbc.length.trans hab.length, hbc.ok ∘ hab.ok, hbc.nodup ∘ hab.nodup,
    fun ch i => hbc.binds ch i ∘ hab.binds ch i⟩

/-- A result record stays good: it names at most a binding. -/
theorem SlotsKept.recordOk {capacity : Nat} {old new : List Slot} (h : SlotsKept capacity old new) {r : ResultRec}
    (hr : recordOk old r = true) : recordOk new r = true := by
  cases r with
  | wres errors => exact hr
  | rres multiple rep entries => exact hr
  | tres ch i => exact (recordOk_tres_iff ..).2 (h.binds ch i ((recordOk_tres_iff ..).1 hr))

theorem SlotsKept.results {capacity : Nat} {old new : List Slot} (h : SlotsKept capacity old new)
    {rs : List ResultRec} (hr : rs.all (Machine.recordOk old) = true) : rs.all (Machine.recordOk new) = true := by
  rw [List.all_eq_true] at hr ⊢
  exact fun r hmem => h.recordOk (hr r hmem)

theorem SlotsKept.slotsOk {s : State} {new : List Slot} (h : SlotsKept s.cfg.tunnelCapacity s.slots new)
    (hs : s.slotsOk = true) : ({ s with slots := new } : State).slotsOk = true := by
  rw [State.slotsOk_iff] at hs ⊢
  obtain ⟨hlen, hok, hnd⟩ := hs
  exact ⟨h.length.trans hlen, h.ok hok, h.nodup hnd⟩

/-- A change of one slot's FIFOs leaves the channels bound. -/
theorem boundChannels_modifyFifos (f g : List Byte → List Byte) (slots : List Slot) (i : Nat) :
    boundChannels (slots.modify i fun sl => { sl with inFifo := f sl.inFifo, outFifo := g sl.outFifo }) =
      boundChannels slots := by
  induction slots generalizing i with
  | nil => simp
  | cons sl slots ih =>
    cases i with
    | zero => simp [boundChannels, List.filter_cons, apply_ite (List.map Slot.chan)]
    | succ i =>
      simp only [boundChannels] at ih
      simp [boundChannels, List.filter_cons, apply_ite (List.map Slot.chan), ih]

/-- A change of the FIFOs of slot `i` that keeps each within its capacity, and empty in a free slot. -/
theorem slotsKept_modifyFifos {capacity : Nat} {slots : List Slot} {i : Nat} {f g : List Byte → List Byte}
    (hf : ∀ l, l.length ≤ capacity → (f l).length ≤ capacity)
    (hg : ∀ l, l.length ≤ capacity → (g l).length ≤ capacity)
    (hfree : (∃ ch, bindsAt slots ch i) ∨ f [] = [] ∧ g [] = []) :
    SlotsKept capacity slots
      (slots.modify i fun sl => { sl with inFifo := f sl.inFifo, outFifo := g sl.outFifo }) where
  length := List.length_modify ..
  ok h sl hsl := by
    obtain ⟨j, hj⟩ := List.mem_iff_getElem?.1 hsl
    rw [List.getElem?_modify] at hj
    obtain ⟨x, hx, rfl⟩ := Option.map_eq_some_iff.1 hj
    have hxok := h x (List.mem_of_getElem? hx)
    split
    · next hij =>
      subst hij
      rw [Slot.ok_iff] at hxok ⊢
      obtain ⟨hin, hout, hempty⟩ := hxok
      refine ⟨hf _ hin, hg _ hout, ?_⟩
      obtain ⟨ch, y, hy, hh⟩ | ⟨hf0, hg0⟩ := hfree
      · cases hx.symm.trans hy
        exact .inl (Bool.and_eq_true_iff.1 hh).1
      · exact hempty.imp_right fun ⟨h1, h2⟩ => by simp [h1, h2, hf0, hg0]
    · exact hxok
  nodup h := by rwa [boundChannels_modifyFifos]
  binds ch j := by
    rintro ⟨sl, hsl, hh⟩
    refine ⟨_, by rw [List.getElem?_modify, hsl]; rfl, ?_⟩
    split <;> exact hh

/-- Taking outbound bytes (44_tunnel.md R213). -/
theorem slotsKept_popOut (capacity : Nat) (slots : List Slot) (i n : Nat) :
    SlotsKept capacity slots (popOut slots i n) :=
  slotsKept_modifyFifos (f := id) (g := List.drop n) (fun _ => id)
    (fun l hl => by rw [List.length_drop]; omega) (.inr ⟨rfl, List.drop_nil⟩)

/-- Taking inbound bytes (44_tunnel.md R216). -/
theorem slotsKept_popIn (capacity : Nat) (slots : List Slot) (i n : Nat) :
    SlotsKept capacity slots (slots.modify i fun sl => { sl with inFifo := sl.inFifo.drop n }) :=
  slotsKept_modifyFifos (f := List.drop n) (g := id) (fun l hl => by rw [List.length_drop]; omega)
    (fun _ => id) (.inr ⟨List.drop_nil, rfl⟩)

/-- Pushing inbound bytes into a bound slot (44_tunnel.md R214). -/
theorem slotsKept_pushIn {capacity : Nat} {slots : List Slot} {ch : U32} {i : Nat} (hi : bindsAt slots ch i)
    (bytes : List Byte) : SlotsKept capacity slots (pushIn capacity slots i bytes) :=
  slotsKept_modifyFifos (f := fun l => fifoPush capacity l bytes) (g := id)
    (fun l => fifoPush_length capacity l bytes) (fun _ => id) (.inl ⟨ch, hi⟩)

/-- Pushing outbound bytes into a bound slot (44_tunnel.md R217). -/
theorem slotsKept_pushOut {capacity : Nat} {slots : List Slot} {ch : U32} {i : Nat} (hi : bindsAt slots ch i)
    (bytes : List Byte) :
    SlotsKept capacity slots
      (slots.modify i fun sl => { sl with outFifo := fifoPush capacity sl.outFifo bytes }) :=
  slotsKept_modifyFifos (f := id) (g := fun l => fifoPush capacity l bytes) (fun _ => id)
    (fun l => fifoPush_length capacity l bytes) (.inl ⟨ch, hi⟩)

theorem boundSlot_bindsAt {slots : List Slot} {ch : U32} {i : Nat} (h : boundSlot slots ch = some i) :
    bindsAt slots ch i := by
  obtain ⟨sl, hsl, hb, hc⟩ := boundSlot_some h
  exact ⟨sl, hsl, by simp [Slot.holds, hb, hc]⟩

/-- After binding, the slot found is bound to the channel (44_tunnel.md R210). -/
theorem bindAt_bindsAt {slots : List Slot} {ch : U32} {i : Nat} (h : findSlot slots ch = some i) :
    bindsAt (bindAt slots i ch) ch i := by
  obtain ⟨sl, hsl, hcase⟩ := findSlot_some h
  refine ⟨_, by rw [bindAt_getElem?, if_pos rfl, hsl]; rfl, ?_⟩
  obtain ⟨hb, hc⟩ | ⟨hb, -⟩ := hcase
  · simp [Slot.holds, hb, hc]
  · simp [Slot.holds, hb]

/-- Binding a free slot adds its channel to those bound. -/
theorem boundChannels_bindAt_free {slots : List Slot} {i : Nat} {sl : Slot} (ch : U32) (hsl : slots[i]? = some sl)
    (hb : sl.bound = false) : (boundChannels (bindAt slots i ch)).Perm (ch :: boundChannels slots) := by
  induction slots generalizing i with
  | nil => simp at hsl
  | cons x slots ih =>
    cases i with
    | zero =>
      cases hsl
      simp [boundChannels, bindAt, hb]
    | succ i =>
      have hperm := ih hsl
      simp only [boundChannels, bindAt, List.modify_succ_cons, List.filter_cons] at hperm ⊢
      split
      · exact (hperm.cons _).trans (.swap ..)
      · exact hperm

/-- Binding the slot that `FindSlot` gives keeps one slot for a channel (44_tunnel.md R210). -/
theorem slotsKept_bindAt {capacity : Nat} {slots : List Slot} {ch : U32} {i : Nat} (h : findSlot slots ch = some i) :
    SlotsKept capacity slots (bindAt slots i ch) := by
  obtain ⟨sl, hsl, ⟨hb, -⟩ | ⟨hb, hnew⟩⟩ := findSlot_some h
  · have hsame : bindAt slots i ch = slots := by
      refine List.ext_getElem? fun j => ?_
      rw [bindAt_getElem?]
      split
      · next hij => subst hij; simp [hsl, hb]
      · rfl
    rw [hsame]
    exact .refl ..
  · refine ⟨bindAt_length .., fun hok x hx => ?_, fun hnd => ?_, ?_⟩
    · obtain ⟨j, hj⟩ := List.mem_iff_getElem?.1 hx
      rw [bindAt_getElem?] at hj
      split at hj
      · next hij =>
        subst hij
        rw [hsl] at hj
        have hslok := hok sl (List.mem_of_getElem? hsl)
        simp only [Option.map_some, hb, Bool.false_eq_true, if_false, Option.some.injEq] at hj
        subst hj
        rw [Slot.ok_iff] at hslok ⊢
        obtain ⟨hin, hout, -⟩ := hslok
        exact ⟨hin, hout, .inl rfl⟩
      · exact hok x (List.mem_of_getElem? hj)
    · refine (boundChannels_bindAt_free ch hsl hb).nodup_iff.2 (List.nodup_cons.2 ⟨fun hmem => ?_, hnd⟩)
      obtain ⟨x, hx, hxc⟩ := List.mem_map.1 hmem
      obtain ⟨hxm, hxb⟩ := List.mem_filter.1 hx
      exact hnew x hxm hxb hxc
    · rintro c j ⟨x, hx, hh⟩
      have hxb : x.bound = true := (Bool.and_eq_true_iff.1 hh).1
      refine ⟨x, ?_, hh⟩
      rw [bindAt_getElem?, hx]
      split
      · simp [hxb]
      · rfl

/-- Composing a reply only takes bytes out (42_dispatcher.md R154, 44_tunnel.md R213). -/
theorem slotsKept_composeAll (capacity bufferSize : Nat) (rs : List ResultRec) (slots : List Slot) :
    SlotsKept capacity slots (composeAll bufferSize rs slots).2 := by
  induction rs generalizing slots with
  | nil => exact .refl ..
  | cons r rs ih =>
    refine SlotsKept.trans ?_ (ih _)
    cases r with
    | wres errors => exact .refl ..
    | rres multiple rep entries => cases multiple <;> exact .refl ..
    | tres ch i => exact slotsKept_popOut ..

end Sys2Proof.Machine
end

section
/-! PROOF. The invariant taken apart (`State.inv_iff`): what it says in every phase, the candidate frame, the engine and
the client's record; and the ways in which a state has it. -/

namespace Sys2Proof.Machine

open Sys2Proof

/-- What the invariant says without regard to the phases: parameters, `NODE_ID`, slots, payload buffers and results. -/
def State.BaseOk (s : State) : Prop :=
  s.cfg.wf = true ∧ s.nodeIdOk = true ∧ s.slotsOk = true ∧ s.accPayload.length ≤ s.cfg.bufferSize ∧
    s.replyPayload.length ≤ s.cfg.bufferSize ∧ s.results.all (recordOk s.slots) = true

/-- A frame stands on TX exactly at a server in `SEND` (42_dispatcher.md R156, R158). -/
def State.TxOk (s : State) : Prop :=
  s.txFrame.isSome = true ↔ s.cfg.role = .server ∧ s.srvState = .send

/-- The results before execution, and between execution and composition (42_dispatcher.md R141, R150). -/
def State.ResultsOk (s : State) : Prop :=
  (s.srvState = .dispatch → s.results = []) ∧
    (s.srvState = .compose → s.results.length = s.scanList.length ∧ s.scanOutcome ≠ .malformed)

theorem State.buffersOk_iff (s : State) :
    s.buffersOk = true ↔ s.TxOk ∧ s.accPayload.length ≤ s.cfg.bufferSize ∧
      s.replyPayload.length ≤ s.cfg.bufferSize := by
  unfold State.buffersOk State.TxOk
  cases s.cfg.role <;> cases s.txFrame <;> simp [and_assoc]

theorem State.workOk_iff (s : State) :
    s.workOk = true ↔ s.results.all (recordOk s.slots) = true ∧ s.ResultsOk := by
  unfold State.workOk State.ResultsOk
  cases s.srvState <;> simp

theorem State.inv_iff (s : State) :
    s.Inv ↔ s.BaseOk ∧ s.clientOk = true ∧ s.receiverOk = true ∧ s.phaseOk = true ∧ s.TxOk ∧ s.ResultsOk := by
  unfold State.Inv State.BaseOk
  rw [State.buffersOk_iff, State.workOk_iff]
  tauto

/-! The parts, one by one. -/

theorem State.phaseOk_client {s : State} (hr : s.cfg.role = .client) : s.phaseOk = true ↔ s.srvState = .idle := by
  simp [State.phaseOk, hr]

theorem State.clientOk_client {s : State} (hr : s.cfg.role = .client) :
    s.clientOk = true ↔ s.mentions = Mentions.empty ∧ (s.cliReq = none ↔ s.cliState = .idle) := by
  cases h : s.cliReq <;> simp [State.clientOk, hr, h]

/-- The receiver holds no candidate frame. -/
def State.Cleared (s : State) : Prop :=
  s.rxPhase = .h0 ∧ s.rxBytes = [] ∧ s.rxPay = []

theorem State.receiverOk_h0 {s : State} (hp : s.rxPhase = .h0) :
    s.receiverOk = true ↔ s.rxBytes = [] ∧ s.rxPay = [] := by
  simp [State.receiverOk, hp]

theorem State.Cleared.receiverOk {s : State} (h : s.Cleared) : s.receiverOk = true :=
  (State.receiverOk_h0 h.1).2 h.2

/-- The receiver has taken the four bytes up to the destination, the length bytes, the payload bytes so far and `extra`
checksum bytes (41_frame_codec.md R118 to R122). -/
def State.Collected (s : State) (extra : Nat) : Prop :=
  s.rxBytes.take 4 = [0x54#8, 0xAB#8, s.rxSrc, s.rxDst] ∧ s.rxLenN ≤ 5 ∧
    s.rxBytes.length = 4 + s.rxLenN + s.rxPay.length + extra

theorem State.receiverOk_len {s : State} (hp : s.rxPhase = .len) :
    s.receiverOk = true ↔ s.Collected 0 ∧ s.rxLenN < 5 ∧ s.rxPay = [] := by
  simp only [State.receiverOk, hp, State.Collected, Bool.and_eq_true, decide_eq_true_eq, List.isEmpty_iff]
  constructor
  · rintro ⟨⟨⟨ht, hn⟩, hl⟩, he⟩
    exact ⟨⟨ht, hn.le, by rw [hl, he]; rfl⟩, hn, he⟩
  · rintro ⟨⟨ht, -, hl⟩, hn, he⟩
    exact ⟨⟨⟨ht, hn⟩, by rw [hl, he]; rfl⟩, he⟩

theorem State.receiverOk_pay {s : State} (hp : s.rxPhase = .pay) :
    s.receiverOk = true ↔ s.Collected 0 ∧ s.rxPay.length < s.rxLen.toNat ∧ s.rxLen.toNat ≤ s.cfg.bufferSize := by
  simp [State.receiverOk, hp, State.Collected, and_assoc]

theorem State.receiverOk_crc0 {s : State} (hp : s.rxPhase = .crc0) :
    s.receiverOk = true ↔ s.Collected 0 ∧ s.rxPay.length = s.rxLen.toNat ∧ s.rxLen.toNat ≤ s.cfg.bufferSize := by
  simp [State.receiverOk, hp, State.Collected, and_assoc]

theorem State.receiverOk_crc1 {s : State} (hp : s.rxPhase = .crc1) :
    s.receiverOk = true ↔ s.Collected (if s.srvState = .validate then 2 else 1) ∧
      s.rxPay.length = s.rxLen.toNat ∧ s.rxLen.toNat ≤ s.cfg.bufferSize := by
  simp [State.receiverOk, hp, State.Collected, and_assoc]

/-- One more byte leaves the first four. -/
theorem State.Collected.take_append {s : State} {n : Nat} (h : s.Collected n) (b : Byte) :
    (s.rxBytes ++ [b]).take 4 = [0x54#8, 0xAB#8, s.rxSrc, s.rxDst] := by
  obtain ⟨ht, -, hl⟩ := h
  rw [List.take_append_of_le_length (by omega), ht]

/-! No frame on TX. -/

/-- The invariant but for the candidate frame, the engine's phase and the client's record, at an engine that holds no
frame on TX. What happens while receiving keeps it. -/
def State.Quiet (s : State) : Prop :=
  s.BaseOk ∧ s.txFrame = none ∧ (s.cfg.role = .client → s.srvState = .idle)

theorem State.Inv.baseOk {s : State} (h : s.Inv) : s.BaseOk := by
  obtain ⟨hb, -⟩ := (State.inv_iff s).1 h
  exact hb

theorem State.Inv.clientOk {s : State} (h : s.Inv) : s.clientOk = true := by
  obtain ⟨-, hc, -⟩ := (State.inv_iff s).1 h
  exact hc

theorem State.Inv.receiverOk {s : State} (h : s.Inv) : s.receiverOk = true := by
  obtain ⟨-, -, hr, -⟩ := (State.inv_iff s).1 h
  exact hr

theorem State.Inv.phaseOk {s : State} (h : s.Inv) : s.phaseOk = true := by
  obtain ⟨-, -, -, hp, -⟩ := (State.inv_iff s).1 h
  exact hp

theorem State.Inv.quiet {s : State} (h : s.Inv) (hs : s.srvState ≠ .send) : s.Quiet := by
  obtain ⟨hb, -, -, hp, htx, -⟩ := (State.inv_iff s).1 h
  refine ⟨hb, ?_, fun hr => (State.phaseOk_client hr).1 hp⟩
  simpa [State.TxOk, hs] using htx

theorem State.Inv.quiet_of_client {s : State} (h : s.Inv) (hr : s.cfg.role = .client) : s.Quiet := by
  refine h.quiet ?_
  rw [(State.phaseOk_client hr).1 h.phaseOk]
  decide

/-- A server past acceptance holds no candidate frame (42_dispatcher.md R140). -/
theorem State.Inv.cleared {s : State} (h : s.Inv) (hr : s.cfg.role = .server)
    (hs : s.srvState = .dispatch ∨ s.srvState = .compose ∨ s.srvState = .send) : s.Cleared := by
  have hp : s.rxPhase = .h0 := by
    have := h.phaseOk
    rcases hs with hs | hs | hs <;> simpa [State.phaseOk, hr, hs] using this
  exact ⟨hp, (State.receiverOk_h0 hp).1 h.receiverOk⟩

/-- While a quiet engine receives, the rest of the invariant is about the candidate frame. -/
theorem State.Quiet.inv {s : State} (hq : s.Quiet) (hc : s.clientOk = true) (hr : s.receiverOk = true)
    (hp : s.phaseOk = true) (hs : s.srvState = .idle ∨ s.srvState = .accum ∨ s.srvState = .validate) : s.Inv := by
  obtain ⟨hb, htx, -⟩ := hq
  rw [State.inv_iff]
  refine ⟨hb, hc, hr, hp, ?_, ?_⟩
  · rcases hs with hs | hs | hs <;> simp [State.TxOk, htx, hs]
  · rcases hs with hs | hs | hs <;> simp [State.ResultsOk, hs]

/-- A quiet engine that hunts for a header. -/
theorem State.Quiet.inv_of_hunting {s : State} (hq : s.Quiet) (hc : s.clientOk = true) (hr : s.receiverOk = true)
    (hs : s.srvState = .idle) (hp : s.rxPhase = .h0 ∨ s.rxPhase = .h1) : s.Inv := by
  refine hq.inv hc hr ?_ (.inl hs)
  cases hrole : s.cfg.role with
  | server => simpa [State.phaseOk, hrole, hs] using hp
  | client => exact (State.phaseOk_client hrole).2 hs

/-- The engine's state while a candidate frame is collected (41_frame_codec.md R117); a client has no such state. -/
def State.Collecting (s : State) : Prop :=
  s.srvState = match s.cfg.role with
    | .server => .accum
    | .client => .idle

/-- A quiet engine that collects a frame. -/
theorem State.Quiet.inv_of_collecting {s : State} (hq : s.Quiet) (hc : s.clientOk = true) (hr : s.receiverOk = true)
    (hs : s.Collecting) (h0 : s.rxPhase ≠ .h0) (h1 : s.rxPhase ≠ .h1) : s.Inv := by
  cases hrole : s.cfg.role with
  | server =>
    have hs : s.srvState = .accum := by simpa [State.Collecting, hrole] using hs
    exact hq.inv hc hr (by simp [State.phaseOk, hrole, hs, h0, h1]) (.inr (.inl hs))
  | client =>
    have hs : s.srvState = .idle := by simpa [State.Collecting, hrole] using hs
    exact hq.inv hc hr ((State.phaseOk_client hrole).2 hs) (.inl hs)

/-- A server that holds no candidate frame. -/
theorem State.BaseOk.inv_of_cleared {s : State} (hb : s.BaseOk) (hc : s.clientOk = true) (hcl : s.Cleared)
    (hr : s.cfg.role = .server) (ha : s.srvState ≠ .accum) (hv : s.srvState ≠ .validate) (htx : s.TxOk)
    (hw : s.ResultsOk) : s.Inv := by
  rw [State.inv_iff]
  refine ⟨hb, hc, hcl.receiverOk, ?_, htx, hw⟩
  cases hs : s.srvState <;> simp_all [State.phaseOk, State.Cleared]

/-! Updates of single registers. -/

theorem State.BaseOk.setSlots {s : State} {slots : List Slot} (h : s.BaseOk)
    (hk : SlotsKept s.cfg.tunnelCapacity s.slots slots) : ({ s with slots := slots } : State).BaseOk := by
  obtain ⟨hcfg, hid, hsl, hacc, hrep, hres⟩ := h
  exact ⟨hcfg, hid, hk.slotsOk hsl, hacc, hrep, hk.results hres⟩

theorem State.Inv.setSlots {s : State} {slots : List Slot} (h : s.Inv)
    (hk : SlotsKept s.cfg.tunnelCapacity s.slots slots) : ({ s with slots := slots } : State).Inv := by
  obtain ⟨hb, hrest⟩ := (State.inv_iff s).1 h
  exact (State.inv_iff _).2 ⟨hb.setSlots hk, hrest⟩

theorem State.Inv.configWrite {s : State} (h : s.Inv) (v : Byte) : (configWrite v s).Inv := by
  obtain ⟨⟨hcfg, -, hbase⟩, hrest⟩ := (State.inv_iff s).1 h
  refine (State.inv_iff _).2 ⟨⟨hcfg, ?_, hbase⟩, hrest⟩
  simp [State.nodeIdOk, Machine.configWrite, nodeIdOf_msb]

/-- What is given out on a port is no part of the invariant. -/
theorem State.Inv.emit {s : State} (h : s.Inv) (o : PortOutput) : (s.emit o).Inv := h

/-! Dropping a frame and taking an error. -/

/-- The candidate frame of a quiet engine is dropped, whatever it was (41_frame_codec.md R126). -/
theorem State.Quiet.discardFrame_inv {s : State} (hq : s.Quiet) (hc : s.clientOk = true) : s.discardFrame.Inv := by
  obtain ⟨hb, htx, hidle⟩ := hq
  have hs : s.discardFrame.srvState = .idle := by
    cases hr : s.cfg.role with
    | server => exact State.discardFrame_srvState_server s hr
    | client => rw [State.discardFrame_srvState_client s hr, hidle hr]
  have hq' : s.discardFrame.Quiet := ⟨hb, htx, fun _ => hs⟩
  exact hq'.inv_of_hunting hc rfl hs (.inl rfl)

/-- A request of a quiet client is resolved (45_client.md R236), whatever was left of its record. -/
theorem State.Quiet.resolve_inv {s : State} (hq : s.Quiet) (hrole : s.cfg.role = .client) (hr : s.receiverOk = true)
    (r : CliResult) : (s.resolve r).Inv := by
  obtain ⟨hb, htx, hidle⟩ := hq
  have hq' : (s.resolve r).Quiet := ⟨hb, htx, hidle⟩
  have hrole' : (s.resolve r).cfg.role = .client := hrole
  have hidle' : (s.resolve r).srvState = .idle := hidle hrole
  exact hq'.inv ((State.clientOk_client hrole').2 ⟨rfl, by simp⟩) hr ((State.phaseOk_client hrole').2 hidle')
    (.inl hidle')

/-- A frame-level error (60_exceptions.md R256) drops the candidate frame. -/
theorem State.Quiet.takeError_inv {s : State} (hq : s.Quiet) (hc : s.clientOk = true) {k : ErrorKind}
    (hk : k = .wrongId ∨ k = .checksumMismatch ∨ k = .receiveOverrun) : (s.takeError k).Inv := by
  have hcount : (s.count k).Quiet := hq
  rcases hk with rfl | rfl | rfl <;> exact hcount.discardFrame_inv hc

/-- A malformed payload at a server. -/
theorem State.Quiet.malformed_server {s : State} (hq : s.Quiet) (hc : s.clientOk = true) (hr : s.cfg.role = .server) :
    (s.takeError .malformedSubframe).Inv := by
  obtain ⟨hb, htx, -⟩ := hq
  rw [State.takeError_malformed_server s hr]
  have hq' : (onlyCountedMalformed s).Quiet := ⟨hb, htx, fun _ => rfl⟩
  exact hq'.inv_of_hunting hc rfl rfl (.inl rfl)

/-- A malformed reply resolves the request of a client, whatever was collected of it. -/
theorem State.Quiet.malformed_client {s : State} (hq : s.Quiet) (hr : s.cfg.role = .client) :
    (s.takeError .malformedSubframe).Inv := by
  obtain ⟨hb, htx, hidle⟩ := hq
  rw [State.takeError_malformed_client s hr]
  have hq' : (resolvedMalformed s).Quiet := ⟨hb, htx, hidle⟩
  have hr' : (resolvedMalformed s).cfg.role = .client := hr
  exact hq'.inv_of_hunting ((State.clientOk_client hr').2 ⟨rfl, iff_of_true rfl rfl⟩) rfl (hidle hr) (.inl rfl)

end Sys2Proof.Machine
end

section
/-! PROOF. The receiver keeps the invariant, phase by phase (41_frame_codec.md R114 to R127), and the server's check of
a complete frame. -/

namespace Sys2Proof.Machine

open Sys2Proof

theorem State.Quiet.serverGoes {s : State} (h : s.Quiet) (v : SrvState) : (s.serverGoes v).Quiet := by
  obtain ⟨hb, htx, hidle⟩ := h
  exact ⟨hb, htx, fun hr => by rw [State.serverGoes_srvState_client s v hr, hidle hr]⟩

/-- Where the receive port is open and no candidate frame has begun, the engine is in `IDLE`. -/
theorem State.Inv.idle_of_hunting {s : State} (h : s.Inv) (ho : receiveOpen s = true)
    (hp : s.rxPhase = .h0 ∨ s.rxPhase = .h1) : s.srvState = .idle := by
  have hph := h.phaseOk
  cases hr : s.cfg.role with
  | server =>
    obtain hc | hi | ha := (receiveOpen_iff s).1 ho
    · simp [hr] at hc
    · exact hi
    · rcases hp with hp | hp <;> simp [State.phaseOk, hr, ha, hp] at hph
  | client => exact (State.phaseOk_client hr).1 hph

theorem State.Inv.collecting {s : State} (h : s.Inv) (ho : receiveOpen s = true) (h0 : s.rxPhase ≠ .h0)
    (h1 : s.rxPhase ≠ .h1) : s.Collecting := by
  have hph := h.phaseOk
  cases hr : s.cfg.role with
  | server =>
    obtain hc | hi | ha := (receiveOpen_iff s).1 ho
    · simp [hr] at hc
    · simp [State.phaseOk, hr, hi, h0, h1] at hph
    · simpa [State.Collecting, hr] using ha
  | client => simpa [State.Collecting, hr] using (State.phaseOk_client hr).1 hph

theorem State.Collecting.ne_validate {s : State} (h : s.Collecting) : s.srvState ≠ .validate := by
  rw [State.Collecting] at h
  rw [h]
  cases s.cfg.role <;> decide

theorem State.Inv.quiet_of_receiveOpen {s : State} (h : s.Inv) (ho : receiveOpen s = true) : s.Quiet := by
  obtain hr | hs | hs := (receiveOpen_iff s).1 ho
  · exact h.quiet_of_client hr
  · exact h.quiet (by simp [hs])
  · exact h.quiet (by simp [hs])

theorem rxHunt_inv {s : State} (b : Byte) (h : s.Inv) (ho : receiveOpen s = true) (hp : s.rxPhase = .h0) :
    (rxHunt b s).Inv := by
  have hq := h.quiet_of_receiveOpen ho
  have hs := h.idle_of_hunting ho (.inl hp)
  obtain ⟨-, hpay⟩ := (State.receiverOk_h0 hp).1 h.receiverOk
  unfold rxHunt
  split
  · have hq' : ({ s with rxBytes := [0x54#8], rxPhase := .h1 } : State).Quiet := hq
    exact hq'.inv_of_hunting h.clientOk (by simp [State.receiverOk, hpay]) hs (.inr rfl)
  · exact h

theorem rxHeader_inv {s : State} (b : Byte) (h : s.Inv) (ho : receiveOpen s = true) (hp : s.rxPhase = .h1) :
    (rxHeader b s).Inv := by
  have hq := h.quiet_of_receiveOpen ho
  have hs := h.idle_of_hunting ho (.inr hp)
  obtain ⟨-, hpay⟩ : s.rxBytes = [0x54#8] ∧ s.rxPay = [] := by
    simpa [State.receiverOk, hp] using h.receiverOk
  unfold rxHeader
  split
  · have hq' : ({ s with rxBytes := [0x54#8, 0xAB#8], rxPhase := .src } : State).Quiet := hq
    refine (hq'.serverGoes .accum).inv_of_collecting h.clientOk (by simp [State.receiverOk, hpay]) ?_
      (by simp) (by simp)
    cases hr : s.cfg.role <;> simp [State.Collecting, State.serverGoes, hr, hs]
  · split
    · have hq' : ({ s with rxBytes := [0x54#8] } : State).Quiet := hq
      exact hq'.inv_of_hunting h.clientOk (by simp [State.receiverOk, hp, hpay]) hs (.inr hp)
    · have hq' : ({ s with rxBytes := [], rxPhase := .h0 } : State).Quiet := hq
      exact hq'.inv_of_hunting h.clientOk (by simp [State.receiverOk, hpay]) hs (.inl rfl)

theorem rxSource_inv {s : State} (b : Byte) (h : s.Inv) (ho : receiveOpen s = true) (hp : s.rxPhase = .src) :
    (rxSource b s).Inv := by
  have hq : (rxSource b s).Quiet := h.quiet_of_receiveOpen ho
  have hs : (rxSource b s).Collecting := h.collecting ho (by simp [hp]) (by simp [hp])
  obtain ⟨hb, hpay⟩ : s.rxBytes = [0x54#8, 0xAB#8] ∧ s.rxPay = [] := by
    simpa [State.receiverOk, hp] using h.receiverOk
  exact hq.inv_of_collecting h.clientOk (by simp [State.receiverOk, rxSource, hb, hpay]) hs (by simp [rxSource])
    (by simp [rxSource])

theorem rxDestination_inv {s : State} (b : Byte) (h : s.Inv) (ho : receiveOpen s = true) (hp : s.rxPhase = .dst) :
    (rxDestination b s).Inv := by
  have hq : (rxDestination b s).Quiet := h.quiet_of_receiveOpen ho
  have hs : (rxDestination b s).Collecting := h.collecting ho (by simp [hp]) (by simp [hp])
  obtain ⟨hb, hpay⟩ : s.rxBytes = [0x54#8, 0xAB#8, s.rxSrc] ∧ s.rxPay = [] := by
    simpa [State.receiverOk, hp] using h.receiverOk
  exact hq.inv_of_collecting h.clientOk (by simp [State.receiverOk, rxDestination, hb, hpay]) hs
    (by simp [rxDestination]) (by simp [rxDestination])

/-- The end of the length field, with no payload byte taken (41_frame_codec.md R120). -/
theorem rxLengthEnd_inv {s : State} (hq : s.Quiet) (hc : s.clientOk = true) (hs : s.Collecting)
    (hcol : s.Collected 0) (hpay : s.rxPay = []) : (rxLengthEnd s).Inv := by
  obtain ⟨ht, hn, hl⟩ := hcol
  rw [hpay] at hl
  unfold rxLengthEnd
  split
  · exact hq.takeError_inv hc (.inr (.inr rfl))
  · next hle =>
    rw [not_lt] at hle
    split
    · next hz =>
      have hq' : ({ s with rxPay := [], rxPhase := .crc0 } : State).Quiet := hq
      exact hq'.inv_of_collecting hc ((State.receiverOk_crc0 rfl).2 ⟨⟨ht, hn, hl⟩, by simp [hz], hle⟩) hs
        (by simp) (by simp)
    · next hz =>
      have hq' : ({ s with rxPay := [], rxPhase := .pay } : State).Quiet := hq
      have hpos : 0 < s.rxLen.toNat := Nat.pos_of_ne_zero fun h0 => hz (BitVec.eq_of_toNat_eq h0)
      exact hq'.inv_of_collecting hc ((State.receiverOk_pay rfl).2 ⟨⟨ht, hn, hl⟩, hpos, hle⟩) hs
        (by simp) (by simp)

theorem rxLength_inv {s : State} (b : Byte) (h : s.Inv) (ho : receiveOpen s = true) (hp : s.rxPhase = .len) :
    (rxLength b s).Inv := by
  have hs := h.collecting ho (by simp [hp]) (by simp [hp])
  obtain ⟨hcol, hn, hpay⟩ := (State.receiverOk_len hp).1 h.receiverOk
  have ht := hcol.take_append b
  obtain ⟨-, -, hl⟩ := hcol
  unfold rxLength
  extract_lets t
  have hq' : t.Quiet := h.quiet_of_receiveOpen ho
  have hcol' : t.Collected 0 := ⟨ht, hn, by simp [t, hl, hpay]; omega⟩
  split
  · split
    · exact hq'.takeError_inv h.clientOk (.inr (.inr rfl))
    · next h5 =>
      have hp' : t.rxPhase = .len := hp
      have hn' : t.rxLenN < 5 := lt_of_le_of_ne hn h5
      exact hq'.inv_of_collecting h.clientOk ((State.receiverOk_len hp').2 ⟨hcol', hn', hpay⟩) hs
        (by simp [hp']) (by simp [hp'])
  · exact rxLengthEnd_inv hq' h.clientOk hs hcol' hpay

theorem rxPayload_inv {s : State} (b : Byte) (h : s.Inv) (ho : receiveOpen s = true) (hp : s.rxPhase = .pay) :
    (rxPayload b s).Inv := by
  have hs := h.collecting ho (by simp [hp]) (by simp [hp])
  obtain ⟨hcol, hlt, hle⟩ := (State.receiverOk_pay hp).1 h.receiverOk
  have ht := hcol.take_append b
  obtain ⟨-, hn, hl⟩ := hcol
  unfold rxPayload
  extract_lets t
  have hq' : t.Quiet := h.quiet_of_receiveOpen ho
  have hcol' : t.Collected 0 := ⟨ht, hn, by simp [t, hl]; omega⟩
  split
  · next heq =>
    have hq'' : ({ t with rxPhase := .crc0 } : State).Quiet := hq'
    exact hq''.inv_of_collecting h.clientOk ((State.receiverOk_crc0 rfl).2 ⟨hcol', heq, hle⟩) hs (by simp) (by simp)
  · next hne =>
    have hp' : t.rxPhase = .pay := hp
    have hlt' : t.rxPay.length < t.rxLen.toNat := lt_of_le_of_ne (by simpa [t] using hlt) hne
    exact hq'.inv_of_collecting h.clientOk ((State.receiverOk_pay hp').2 ⟨hcol', hlt', hle⟩) hs
      (by simp [hp']) (by simp [hp'])

theorem rxCrcLow_inv {s : State} (b : Byte) (h : s.Inv) (ho : receiveOpen s = true) (hp : s.rxPhase = .crc0) :
    (rxCrcLow b s).Inv := by
  have hq : (rxCrcLow b s).Quiet := h.quiet_of_receiveOpen ho
  have hs : (rxCrcLow b s).Collecting := h.collecting ho (by simp [hp]) (by simp [hp])
  obtain ⟨hcol, hlen⟩ := (State.receiverOk_crc0 hp).1 h.receiverOk
  have ht := hcol.take_append b
  obtain ⟨-, hn, hl⟩ := hcol
  refine hq.inv_of_collecting h.clientOk ((State.receiverOk_crc1 rfl).2 ⟨?_, hlen⟩) hs (by simp [rxCrcLow])
    (by simp [rxCrcLow])
  rw [if_neg hs.ne_validate]
  exact ⟨ht, hn, by simp [rxCrcLow, hl]⟩

/-- At a server the frame is complete and goes to `VALIDATE` (41_frame_codec.md R122). -/
theorem rxCrcHigh_inv {s : State} (b : Byte) (h : s.Inv) (ho : receiveOpen s = true) (hp : s.rxPhase = .crc1)
    (hr : s.cfg.role = .server) : (rxCrcHigh b s).Inv := by
  have hs := h.collecting ho (by simp [hp]) (by simp [hp])
  obtain ⟨hcol, hlen⟩ := (State.receiverOk_crc1 hp).1 h.receiverOk
  rw [if_neg hs.ne_validate] at hcol
  have ht := hcol.take_append b
  obtain ⟨-, hn, hl⟩ := hcol
  have hq : ({ s with rxBytes := s.rxBytes ++ [b], rxCrc := setCrcHigh s.rxCrc b } : State).Quiet :=
    h.quiet_of_receiveOpen ho
  have hv : (rxCrcHigh b s).srvState = .validate := State.serverGoes_srvState_server _ _ hr
  have hp' : (rxCrcHigh b s).rxPhase = .crc1 := hp
  refine (hq.serverGoes .validate).inv h.clientOk ((State.receiverOk_crc1 hp').2 ⟨?_, hlen⟩) ?_ (.inr (.inr hv))
  · rw [if_pos hv]
    exact ⟨ht, hn, by simp [rxCrcHigh, hl]⟩
  · have hr' : (rxCrcHigh b s).cfg.role = .server := hr
    change (rxCrcHigh b s).phaseOk = true
    simp [State.phaseOk, hr', hv, hp']

/-- A byte in any phase, but for a client's last one, which runs the checks in the same step. -/
theorem rxTake_inv {s : State} (b : Byte) (h : s.Inv) (ho : receiveOpen s = true)
    (hlast : s.rxPhase = .crc1 → s.cfg.role = .server) : (rxTake b s).Inv := by
  unfold rxTake
  cases hp : s.rxPhase with
  | h0 => exact rxHunt_inv b h ho hp
  | h1 => exact rxHeader_inv b h ho hp
  | src => exact rxSource_inv b h ho hp
  | dst => exact rxDestination_inv b h ho hp
  | len => exact rxLength_inv b h ho hp
  | pay => exact rxPayload_inv b h ho hp
  | crc0 => exact rxCrcLow_inv b h ho hp
  | crc1 => exact rxCrcHigh_inv b h ho hp (hlast hp)

theorem rxClose_inv {s : State} (h : s.Inv) : (rxClose s).Inv := by
  unfold rxClose
  split
  · next hr => exact (h.quiet_of_client hr).discardFrame_inv h.clientOk
  · split
    · next hs => exact (h.quiet (by simp [hs])).discardFrame_inv h.clientOk
    · next hs => exact (h.quiet (by simp [hs])).discardFrame_inv h.clientOk
    · next hs => exact (h.quiet (by simp [hs])).discardFrame_inv h.clientOk
    all_goals exact h

/-- An accepted frame's payload fits the buffer, and `DISPATCH` begins with cleared registers (41_frame_codec.md R125,
42_dispatcher.md R141). -/
theorem State.Quiet.acceptFrame_inv {s : State} (hq : s.Quiet) (hc : s.clientOk = true) (hr : s.cfg.role = .server)
    (hlen : s.rxPay.length ≤ s.cfg.bufferSize) : s.acceptFrame.Inv := by
  obtain ⟨⟨hcfg, hid, hsl, -⟩, -⟩ := hq
  have hb : s.acceptFrame.BaseOk := ⟨hcfg, hid, hsl, hlen, Nat.zero_le _, rfl⟩
  exact hb.inv_of_cleared hc ⟨rfl, rfl, rfl⟩ hr (by simp [State.acceptFrame]) (by simp [State.acceptFrame])
    (by simp [State.TxOk, State.acceptFrame]) (by simp [State.ResultsOk, State.acceptFrame])

theorem validateStep_inv {s : State} (h : s.Inv) (hr : s.cfg.role = .server) (hs : s.srvState = .validate) :
    (validateStep s).Inv := by
  have hq := h.quiet (by simp [hs])
  have hp : s.rxPhase = .crc1 := by simpa [State.phaseOk, hr, hs] using h.phaseOk
  obtain ⟨-, hlen, hle⟩ := (State.receiverOk_crc1 hp).1 h.receiverOk
  unfold validateStep
  split
  · split
    · exact hq.acceptFrame_inv h.clientOk hr (hlen.trans_le hle)
    · exact hq.takeError_inv h.clientOk (.inl rfl)
  · exact hq.takeError_inv h.clientOk (.inr (.inl rfl))

end Sys2Proof.Machine
end

section
/-! PROOF. Executing and answering an accepted frame keeps the invariant (42_dispatcher.md R140 to R159). -/

namespace Sys2Proof.Machine

open Sys2Proof

/-- A server within the `DISPATCH` step, after the scan. -/
def State.Executing (s : State) : Prop :=
  s.Quiet ∧ s.clientOk = true ∧ s.Cleared ∧ s.cfg.role = .server ∧ s.srvState = .dispatch

theorem State.BaseOk.addResult {s : State} (h : s.BaseOk) {r : ResultRec} (hr : recordOk s.slots r = true) :
    (s.addResult r).BaseOk := by
  obtain ⟨hcfg, hid, hsl, hacc, hrep, hres⟩ := h
  exact ⟨hcfg, hid, hsl, hacc, hrep, by simpa [State.addResult, hr] using hres⟩

/-- Server calls and their result record. -/
theorem State.Executing.afterCalls {s : State} (h : s.Executing) (cs : List PortOutput) {r : ResultRec}
    (hr : callRecordOk r) : (afterCalls s cs r).Executing := by
  obtain ⟨⟨hb, hrest⟩, hexec⟩ := h
  exact ⟨⟨hb.addResult (hr s.slots), hrest⟩, hexec⟩

/-- A tunnel poll that a slot can take (44_tunnel.md R211). -/
theorem State.Executing.poll {s : State} (h : s.Executing) {ch : U32} {i : Nat} (hi : findSlot s.slots ch = some i)
    (bytes : List Byte) :
    (({ s with slots := pushIn s.cfg.tunnelCapacity (bindAt s.slots i ch) i bytes } : State).addResult
      (.tres ch i)).Executing := by
  obtain ⟨⟨hb, hrest⟩, hexec⟩ := h
  have hpush := slotsKept_pushIn (capacity := s.cfg.tunnelCapacity) (bindAt_bindsAt hi) bytes
  have hb' := hb.setSlots ((slotsKept_bindAt hi).trans hpush)
  have hrec := (recordOk_tres_iff ..).2 (hpush.binds ch i (bindAt_bindsAt hi))
  exact ⟨⟨hb'.addResult hrec, hrest⟩, hexec⟩

/-- One request subframe leaves one result record (42_dispatcher.md R150), where a slot can take a poll's channel. -/
theorem State.Executing.exec {i : Instr} {s t : State} (h : s.Executing) (hreq : i.isRequest = true)
    (hpoll : ∀ ch, pollChannel i = some ch → findSlot s.slots ch ≠ none) (hx : exec i s = .next t) :
    t.Executing ∧ t.results.length = s.results.length + 1 ∧ t.scanOutcome = s.scanOutcome ∧
      t.scanList = s.scanList := by
  have hrole : s.cfg.role = .server := by
    obtain ⟨-, -, -, hrole, -⟩ := h
    exact hrole
  obtain ⟨u, hu, hcase⟩ := exec_cases i s
  cases hu.symm.trans hx
  cases hcase with
  | wrongEnd hw _ => simp [hrole, Role.takes, hreq] at hw
  | calls _ _ cs r hr ht =>
    subst ht
    exact ⟨h.afterCalls cs hr, by simp [Machine.afterCalls], rfl, rfl⟩
  | poll _ ch bytes hi ht =>
    subst ht hi
    obtain ⟨hn, -⟩ | ⟨j, hj, he⟩ := receiveTunnel_cases ch bytes s
    · exact absurd hn (hpoll ch rfl)
    · rw [he]
      exact ⟨h.poll hj bytes, by simp, rfl, rfl⟩
  | mention hc _ _ => simp [hrole] at hc

/-- A scanned list leaves one result record for each subframe. -/
theorem State.Executing.execAll {l : List Instr} : ∀ {s t : State}, s.Executing → (∀ i ∈ l, i.isRequest = true) →
    pollsOk s l → execAll l s = .next t →
    t.Executing ∧ t.results.length = s.results.length + l.length ∧ t.scanOutcome = s.scanOutcome ∧
      t.scanList = s.scanList := by
  induction l with
  | nil =>
    intro s t h _ _ hx
    cases hx
    exact ⟨h, rfl, rfl, rfl⟩
  | cons i l ih =>
    intro s t h hreq hpoll hx
    obtain ⟨u, hu, -⟩ := exec_cases i s
    simp only [Machine.execAll, hu] at hx
    obtain ⟨hue, hul, huo, hus⟩ := h.exec (hreq i List.mem_cons_self)
      (fun ch hch => (hpoll i List.mem_cons_self ch hch).2) hu
    have hrest : pollsOk u l := by
      intro j hj ch hch
      have hone := (hpoll j (List.mem_cons_of_mem _ hj) ch hch).1
      rw [List.length_cons, Nat.add_eq_right] at hone
      simp [List.length_eq_zero_iff.1 hone] at hj
    obtain ⟨hte, htl, hto, hts⟩ := ih hue (fun j hj => hreq j (List.mem_cons_of_mem _ hj)) hrest hx
    exact ⟨hte, by rw [htl, hul, List.length_cons]; omega, hto.trans huo, hts.trans hus⟩

/-- What the two checks after the scan say (42_dispatcher.md R145, R146). -/
theorem pollsOk_of_checks {s : State} {l : List Instr} (h1 : tunnelNotAlone l = false)
    (h2 : noSlotFor s.slots l = false) : pollsOk s l := by
  intro i hi ch hch
  have hpos : 0 < l.length := List.length_pos_of_mem hi
  have hany : (l.any fun j => (pollChannel j).isSome) = true := List.any_eq_true.2 ⟨i, hi, by simp [hch]⟩
  simp only [tunnelNotAlone, hany, Bool.true_and, decide_eq_false_iff_not] at h1
  have hslot := List.any_eq_false.1 h2 i hi
  simp only [hch, Option.isNone_iff_eq_none] at hslot
  exact ⟨by omega, hslot⟩

/-- After execution the server goes on to `COMPOSE` with a record for each subframe scanned. -/
theorem State.Executing.toCompose_inv {s : State} (h : s.Executing) (hlen : s.results.length = s.scanList.length)
    (ho : s.scanOutcome ≠ .malformed) : (toCompose s).Inv := by
  obtain ⟨⟨hb, htx, -⟩, hc, hcl, hr, hs⟩ := h
  simp only [toCompose, hs]
  have hb' : ({ s with srvState := .compose } : State).BaseOk := hb
  exact hb'.inv_of_cleared hc hcl hr (by simp) (by simp) (by simp [State.TxOk, htx])
    (by simp [State.ResultsOk, hlen, ho])

/-- The subframes of a scan that was not malformed are executed with a record for each. -/
theorem State.Executing.judged {s t : State} (h : s.Executing) (hempty : s.results = []) (hm : (judge s).1 ≠ .malformed)
    (hx : Machine.execAll (judge s).2 { s with scanOutcome := (judge s).1, scanList := (judge s).2 } = .next t) :
    t.Executing ∧ t.results.length = t.scanList.length ∧ t.scanOutcome ≠ .malformed := by
  obtain hj | ⟨-, hreq, h1, h2⟩ | hj := judge_cases s
  · exact absurd (congrArg Prod.fst hj) hm
  · have hscan : ({ s with scanOutcome := (judge s).1, scanList := (judge s).2 } : State).Executing := h
    obtain ⟨he, hl, ho, hsl⟩ := hscan.execAll hreq (pollsOk_of_checks h1 h2) hx
    refine ⟨he, ?_, ho ▸ hm⟩
    rw [hl, hsl, hempty]
    exact Nat.zero_add _
  · exact absurd hj hm

theorem dispatchStep_inv {s t : State} (h : s.Inv) (hr : s.cfg.role = .server) (hs : s.srvState = .dispatch)
    (hx : dispatchStep s = .next t) : t.Inv := by
  obtain ⟨-, -, -, -, -, hfresh, -⟩ := (State.inv_iff s).1 h
  have hq : s.Quiet := h.quiet (by simp [hs])
  have hexec : s.Executing := ⟨hq, h.clientOk, h.cleared hr (.inl hs), hr, hs⟩
  obtain ⟨-, hd⟩ | ⟨u, hu, ⟨ho, hd⟩ | ⟨ho, hd⟩⟩ := dispatchStep_cases s <;> cases hd.symm.trans hx
  · have hq' : ({ s with scanOutcome := (judge s).1, scanList := (judge s).2 } : State).Quiet := hq
    exact hq'.malformed_server h.clientOk hr
  · obtain ⟨he, hlen, hout⟩ := hexec.judged (hfresh hs) (by simp [ho]) hu
    exact he.toCompose_inv hlen hout
  · obtain ⟨he, hlen, hout⟩ := hexec.judged (hfresh hs) (by simp [ho]) hu
    have he' : (u.takeError .unknownSubframe).Executing := he
    exact he'.toCompose_inv hlen hout

/-! Composition. -/

theorem packReply_length (room : Nat) (l : List Instr) : (packReply room l).length ≤ room := by
  induction l generalizing room with
  | nil => simp [packReply]
  | cons i l ih =>
    unfold packReply
    split
    · have := ih (room - (encode i).length)
      rw [List.length_append]
      omega
    · exact Nat.zero_le _

/-- The reply stands on TX and fits the buffer (42_dispatcher.md R155, R156, R158). -/
theorem sendReply_inv {s : State} (hb : s.BaseOk) (hc : s.clientOk = true) (hcl : s.Cleared)
    (hr : s.cfg.role = .server) : (sendReply s).Inv := by
  obtain ⟨hcfg, hid, hsl, hacc, -, hres⟩ := hb.setSlots (slotsKept_composeAll _ s.cfg.bufferSize s.results s.slots)
  have hb' : (sendReply s).BaseOk := ⟨hcfg, hid, hsl, hacc, packReply_length .., hres⟩
  exact hb'.inv_of_cleared hc hcl hr (by simp [sendReply]) (by simp [sendReply])
    (by simp [State.TxOk, sendReply, hr]) (by simp [State.ResultsOk, sendReply])

/-- A server goes back to `IDLE` with nothing on TX. -/
theorem State.BaseOk.idle_inv {s : State} (hb : s.BaseOk) (hc : s.clientOk = true) (hcl : s.Cleared)
    (hr : s.cfg.role = .server) (hs : s.srvState = .idle) (htx : s.txFrame = none) : s.Inv :=
  hb.inv_of_cleared hc hcl hr (by simp [hs]) (by simp [hs]) (by simp [State.TxOk, hs, htx])
    (by simp [State.ResultsOk, hs])

theorem composeStep_inv {s : State} (h : s.Inv) (hr : s.cfg.role = .server) (hs : s.srvState = .compose) :
    (composeStep s).Inv := by
  have hcl := h.cleared hr (.inr (.inl hs))
  unfold composeStep
  split
  · exact sendReply_inv h.baseOk h.clientOk hcl hr
  · obtain ⟨⟨hcfg, hid, hsl, hacc, hrep, -⟩, htx, -⟩ := h.quiet (by simp [hs])
    have hb : (dropReply s).BaseOk := ⟨hcfg, hid, hsl, hacc, hrep, rfl⟩
    exact hb.idle_inv h.clientOk hcl hr rfl htx

theorem serverTxDone_inv {s : State} (h : s.Inv) (hr : s.cfg.role = .server) (hs : s.srvState = .send) :
    (serverTxDone s).Inv := by
  have hb : (serverTxDone s).BaseOk := h.baseOk
  exact hb.idle_inv h.clientOk (h.cleared hr (.inr (.inr hs))) hr rfl rfl

end Sys2Proof.Machine
end

section
/-! PROOF. The client engine, the ports and reset keep the invariant; with the receiver and the dispatcher, so does
every step. -/

namespace Sys2Proof.Machine

open Sys2Proof

/-! The client (45_client.md). -/

theorem requestStep_inv {s : State} (h : s.Inv) (hr : s.cfg.role = .client) (req : Request) :
    (requestStep req s).Inv := by
  unfold requestStep
  split
  · have hq := h.quiet_of_client hr
    obtain ⟨hb, -, -, hp, htx, hw⟩ := (State.inv_iff s).1 h
    obtain ⟨hm, -⟩ := (State.clientOk_client hr).1 h.clientOk
    refine State.Inv.emit (State.Inv.emit ?_ _) _
    have hr' : ({ s with cliReq := some (requestRecord req), cliResult := none, cliState := .send } :
      State).cfg.role = .client := hr
    exact (State.inv_iff _).2 ⟨hb, (State.clientOk_client hr').2 ⟨hm, by simp⟩, h.receiverOk, hp, htx, hw⟩
  all_goals exact h.emit _

theorem clientTxDone_inv {s : State} (h : s.Inv) (hr : s.cfg.role = .client) (ok : Bool) :
    (clientTxDone ok s).Inv := by
  have hresolve : ∀ r, (s.resolve r).Inv := (h.quiet_of_client hr).resolve_inv hr h.receiverOk
  obtain ⟨hb, hc, hrest⟩ := (State.inv_iff s).1 h
  unfold clientTxDone
  split
  · split
    · next req hreq =>
      split
      · obtain ⟨hm, -⟩ := (State.clientOk_client hr).1 hc
        have hr' : ({ s with cliState := .await } : State).cfg.role = .client := hr
        exact (State.inv_iff _).2 ⟨hb, (State.clientOk_client hr').2 ⟨hm, by simp [hreq]⟩, hrest⟩
      · exact hresolve _
    · exact hresolve _
  · exact hresolve _

theorem timeoutStep_inv {s : State} (h : s.Inv) (hr : s.cfg.role = .client) : (timeoutStep s).Inv := by
  unfold timeoutStep
  split
  · have hd : s.discardFrame.Inv := (h.quiet_of_client hr).discardFrame_inv h.clientOk
    exact (hd.quiet_of_client hr).resolve_inv hr hd.receiverOk _
  · exact h
  · exact h

/-- A client while it walks a reply: what is collected so far is in `mentions` (45_client.md R230). -/
def State.Walking (s : State) : Prop :=
  s.Quiet ∧ s.cfg.role = .client ∧ s.receiverOk = true

/-- A reply subframe only adds to what is collected. -/
theorem State.Walking.exec {i : Instr} {s t : State} (h : s.Walking) (hrep : i.isRequest = false)
    (hx : exec i s = .next t) : t.Walking := by
  obtain ⟨hq, hr, hrx⟩ := h
  obtain ⟨u, hu, hcase⟩ := exec_cases i s
  cases hu.symm.trans hx
  cases hcase with
  | wrongEnd hw _ => simp [hr, Role.takes, hrep] at hw
  | calls hsrv _ _ _ _ _ => simp [hr] at hsrv
  | poll hsrv _ _ _ _ => simp [hr] at hsrv
  | mention _ m ht =>
    subst ht
    exact ⟨hq, hr, hrx⟩

/-- The coverage check resolves the request, whatever its verdict (45_client.md R234 to R236). -/
theorem State.Walking.conclude_inv {s : State} (h : s.Walking) (req : CliReq) : (conclude req s).Inv := by
  obtain ⟨hq, hr, hrx⟩ := h
  unfold conclude
  split
  · exact hq.malformed_client hr
  · split
    · have hq' : (s.takeError .missingSubframe).Quiet := hq
      exact hq'.resolve_inv hr hrx _
    · exact hq.resolve_inv hr hrx _

theorem takeReply_inv {s t : State} (hq : s.Quiet) (hc : s.clientOk = true) (hr : s.cfg.role = .client) (req : CliReq)
    (hx : takeReply req s = .next t) : t.Inv := by
  have hd : s.discardFrame.Inv := hq.discardFrame_inv hc
  have hqd : s.discardFrame.Quiet := hd.quiet_of_client hr
  have hwalk : s.discardFrame.Walking := ⟨hqd, hr, hd.receiverOk⟩
  obtain he | ⟨l, u, v, hrep, hu, hv, he⟩ := takeReply_cases req s <;> cases he.symm.trans hx
  · exact hqd.malformed_client hr
  · have huw : u.Walking := by
      obtain rfl | rfl := hu
      · exact hwalk
      · exact hwalk
    have hvw : v.Walking := execAll_keeps (fun i hi _ _ hw hx => hw.exec (hrep i hi) hx) huw hv
    exact hvw.conclude_inv req

/-- The checks of a complete frame start from any candidate frame: each of them drops it (45_client.md R227 to R229). -/
theorem clientCheck_inv {s t : State} (hq : s.Quiet) (hc : s.clientOk = true) (hr : s.cfg.role = .client)
    (hx : clientCheck s = .next t) : t.Inv := by
  obtain he | he | he | ⟨req, -, -, -, -, he⟩ := clientCheck_cases s
  · cases he.symm.trans hx
    exact hq.discardFrame_inv hc
  · cases he.symm.trans hx
    exact hq.takeError_inv hc (.inr (.inl rfl))
  · cases he.symm.trans hx
    exact hq.takeError_inv hc (.inl rfl)
  · exact takeReply_inv hq hc hr req (he.symm.trans hx)

theorem receiveByte_inv {s t : State} (b : Byte) (h : s.Inv) (ho : receiveOpen s = true)
    (hx : receiveByte b s = .next t) : t.Inv := by
  unfold receiveByte at hx
  split at hx
  · next hr hp =>
    have hq : ({ s with rxBytes := s.rxBytes ++ [b], rxCrc := setCrcHigh s.rxCrc b } : State).Quiet :=
      h.quiet_of_receiveOpen ho
    simp only [rxTake, hp] at hx
    exact clientCheck_inv (hq.serverGoes .validate) h.clientOk hr hx
  · next hlast =>
    cases hx
    refine rxTake_inv b h ho fun hp => ?_
    cases hr : s.cfg.role with
    | server => rfl
    | client => exact absurd hp (hlast hr)

/-! The tunnel application's port (44_tunnel.md R215 to R217). -/

theorem appAlloc_inv {s : State} (h : s.Inv) (ch : U32) : (appAlloc ch s).Inv := by
  unfold appAlloc bindSlot
  cases hf : findSlot s.slots ch with
  | none => exact h.emit _
  | some i => exact (h.setSlots (slotsKept_bindAt hf)).emit _

theorem appRead_inv {s : State} (h : s.Inv) (ch : U32) (n : Nat) : (appRead ch n s).Inv := by
  unfold appRead
  split
  · exact (h.setSlots (slotsKept_popIn ..)).emit _
  · exact h.emit _

theorem appWrite_inv {s : State} (h : s.Inv) (ch : U32) (bytes : List Byte) : (appWrite ch bytes s).Inv := by
  unfold appWrite
  split
  · next i hi => exact (h.setSlots (slotsKept_pushOut (boundSlot_bindsAt hi) bytes)).emit _
  · exact h.emit _

/-! The other ports. -/

theorem controlWrite_inv {s : State} (h : s.Inv) (i : Nat) (v : U32) : (controlWrite i v s).Inv := by
  cases i with
  | zero => exact (h.configWrite _).emit _
  | succ i => exact h.emit _

theorem txDone_inv {s : State} (h : s.Inv) (ha : txPending s = true) (ok : Bool) : (txDone ok s).Inv := by
  unfold txDone
  obtain ⟨hr, hs⟩ | ⟨hr, -⟩ := (txPending_iff s).1 ha
  · rw [hr]
    exact serverTxDone_inv h hr hs
  · rw [hr]
    exact clientTxDone_inv h hr ok

/-! Reset (70_reset_and_hazards.md R280, R281). -/

/-- The slots after reset are free and empty. -/
theorem resetSlots_free {c : Config} {sl : Slot} (h : sl ∈ resetSlots c) : sl = Slot.free := by
  unfold resetSlots at h
  split at h
  · exact List.eq_of_mem_replicate h
  · cases h

theorem resetWith_inv (c : Config) (hc : c.wf = true) : (State.resetWith c).Inv := by
  have hbound : boundChannels (resetSlots c) = [] := by
    rw [boundChannels, List.filter_eq_nil_iff.2, List.map_nil]
    intro sl hsl
    rw [resetSlots_free hsl]
    decide
  have hslots : (State.resetWith c).slotsOk = true := by
    rw [State.slotsOk_iff]
    refine ⟨rfl, fun sl hsl => ?_, ?_⟩
    · rw [resetSlots_free hsl, Slot.ok_iff]
      exact ⟨Nat.zero_le _, Nat.zero_le _, .inr ⟨rfl, rfl⟩⟩
    · exact hbound ▸ List.nodup_nil
  have hid : (State.resetWith c).nodeIdOk = true := by
    have hn : (State.resetWith c).nodeId = nodeIdOf (c.storedId.getD c.defaultId) := rfl
    simp [State.nodeIdOk, hn, nodeIdOf_msb]
  have hq : (State.resetWith c).Quiet := ⟨⟨hc, hid, hslots, Nat.zero_le _, Nat.zero_le _, rfl⟩, rfl, fun _ => rfl⟩
  have hcli : (State.resetWith c).clientOk = true := by
    cases hr : c.role <;> simp [State.clientOk, State.resetWith, hr]
  exact hq.inv_of_hunting hcli rfl rfl (.inl rfl)

/-- The ranges of the parameters do not speak of `STORED_ID`. -/
theorem resetInput_inv {s : State} (h : s.Inv) (stored : Option Byte) : (resetInput stored s).Inv := by
  obtain ⟨hcfg, -⟩ := h.baseOk
  have hreset := resetWith_inv { s.cfg with storedId := stored } hcfg
  exact hreset

/-! One step. -/

/-- Every event that can occur keeps the invariant. -/
theorem handle_inv {e : PortEvent} {s t : State} (h : s.Inv) (ha : accepts s e = true) (hx : handle e s = .next t) :
    t.Inv := by
  cases e with
  | rxByte b => exact receiveByte_inv b h ha hx
  | rxClose => cases hx; exact rxClose_inv h
  | txDone ok => cases hx; exact txDone_inv h ha ok
  | appAlloc ch => cases hx; exact appAlloc_inv h ch
  | appRead ch n => cases hx; exact appRead_inv h ch n
  | appWrite ch bytes => cases hx; exact appWrite_inv h ch bytes
  | configWrite v => cases hx; exact h.configWrite v
  | configRead => cases hx; exact h.emit _
  | statsRead k => cases hx; exact h.emit _
  | controlRead i => cases hx; exact h.emit _
  | controlWrite i v => cases hx; exact controlWrite_inv h i v
  | request req =>
    cases hx
    obtain ⟨hr, -⟩ := (accepts_request_iff s req).1 ha
    exact requestStep_inv h hr req
  | result => cases hx; exact h.emit _
  | timeout => cases hx; exact timeoutStep_inv h ((callerOpen_iff s).1 ha)
  | reset stored => cases hx; exact resetInput_inv h stored

/-- Settles O56, by what a step can do: an event, one of the three internal actions, or nothing. -/
theorem stepKeepsInvariant : Obligations.StepKeepsInvariant := by
  intro s t h hx
  cases step_cases s with
  | event e a b o _ _ ha ho =>
    have hleft : ({ s with inputs := a ++ b } : State).Inv := h
    have ha' : accepts { s with inputs := a ++ b } e = true := by cases e <;> exact ha
    exact handle_inv hleft ha' (ho.symm.trans hx)
  | validate hr hs ho =>
    cases ho.symm.trans hx
    exact validateStep_inv h hr hs
  | dispatch hr hs ho => exact dispatchStep_inv h hr hs (ho.symm.trans hx)
  | compose hr hs ho =>
    cases ho.symm.trans hx
    exact composeStep_inv h hr hs
  | wait ho =>
    cases ho.symm.trans hx
    exact h

end Sys2Proof.Machine
end

section
/-! PROOF. The bytes of an encoded value are its 7-bit chunks (20_memory.md R54, 40_varuint.md R100). -/

namespace Sys2Proof.Machine

open Sys2Proof

/-- The number whose 7-bit chunks, least significant first, the bytes carry in their low bits. -/
def chunkSum (bytes : List Byte) : Nat :=
  bytes.foldr (fun b high => b.toNat % 128 + 128 * high) 0

@[simp] theorem chunkSum_nil : chunkSum [] = 0 := rfl

@[simp] theorem chunkSum_cons (b : Byte) (bytes : List Byte) :
    chunkSum (b :: bytes) = b.toNat % 128 + 128 * chunkSum bytes := rfl

/-- The last byte of a varuint: its flag is clear and it is its chunk. -/
theorem lastByte_msb {n : Nat} (h : n < 128) : (BitVec.ofNat 8 n).msb = false := by
  rw [BitVec.msb_eq_false_iff_two_mul_lt, BitVec.toNat_ofNat]
  omega

/-- A byte before the last has its flag set. -/
theorem continuedByte_msb (n : Nat) : (BitVec.ofNat 8 (128 + n % 128)).msb = true := by
  rw [BitVec.msb_eq_true_iff_two_mul_ge, BitVec.toNat_ofNat]
  omega

/-- The bytes are a minimal varuint of `n`: every byte but the last is continued, and the last is a zero chunk only
where it stands alone. -/
def IsVaruintOf (bytes : List Byte) (n : Nat) : Prop :=
  ∃ (init : List Byte) (last : Byte), bytes = init ++ [last] ∧ (∀ b ∈ init, b.msb = true) ∧ last.msb = false ∧
    (init = [] ∨ last ≠ 0#8) ∧ chunkSum (init ++ [last]) = n

/-- A number of one chunk is one byte. -/
theorem isVaruintOf_singleton {n : Nat} (h : n < 128) : IsVaruintOf [BitVec.ofNat 8 n] n := by
  refine ⟨[], BitVec.ofNat 8 n, rfl, by simp, lastByte_msb h, .inl rfl, ?_⟩
  simp only [List.nil_append, chunkSum_cons, chunkSum_nil, BitVec.toNat_ofNat]
  omega

/-- The lowest chunk goes in front of the chunks above it. Where only one byte stands above it, that byte is the whole
of `n / 128`, so it is not a zero chunk. -/
theorem IsVaruintOf.cons {bytes : List Byte} {n : Nat} (h : IsVaruintOf bytes (n / 128)) (hn : n / 128 ≠ 0) :
    IsVaruintOf (BitVec.ofNat 8 (128 + n % 128) :: bytes) n := by
  obtain ⟨init, last, rfl, hinit, hlast, hmin, hsum⟩ := h
  refine ⟨_ :: init, last, rfl, List.forall_mem_cons.2 ⟨continuedByte_msb n, hinit⟩, hlast, .inr ?_, ?_⟩
  · rcases hmin with rfl | hmin
    · rintro rfl
      exact hn (by simpa using hsum.symm)
    · exact hmin
  · rw [List.cons_append, chunkSum_cons, hsum, BitVec.toNat_ofNat]
    omega

/-- With fuel for every chunk the loop writes the whole number. -/
theorem varEncodeLoop_isVaruintOf (fuel : Nat) : ∀ n, n < 128 ^ (fuel + 1) →
    IsVaruintOf (varEncodeLoop (fuel + 1) n) n := by
  induction fuel with
  | zero =>
    intro n hn
    have hlow : n < 128 := by simpa using hn
    rw [varEncodeLoop, if_pos (Nat.div_eq_of_lt hlow), Nat.mod_eq_of_lt hlow]
    exact isVaruintOf_singleton hlow
  | succ fuel ih =>
    intro n hn
    rw [varEncodeLoop]
    split
    · next h0 =>
      have hlow : n < 128 := by omega
      rw [Nat.mod_eq_of_lt hlow]
      exact isVaruintOf_singleton hlow
    · next h0 =>
      have hhigh : n / 128 < 128 ^ (fuel + 1) := Nat.div_lt_of_lt_mul (by rwa [← Nat.pow_succ'])
      exact (ih _ hhigh).cons h0

theorem varEncode_isVaruintOf (v : U32) : IsVaruintOf (varEncode v) v.toNat :=
  varEncodeLoop_isVaruintOf 4 v.toNat (v.isLt.trans (by decide))

/-- Settles O2: five bytes hold every 32-bit value, chunk by chunk. -/
theorem varuintEncodesChunks : Obligations.VaruintEncodesChunks :=
  varEncode_isVaruintOf

end Sys2Proof.Machine
end

section
/-! PROOF. The Server port: only the server's `DISPATCH` makes calls (20_memory.md R51, R58). -/

namespace Sys2Proof.Machine

open Sys2Proof

/-- The state of the Server port: the answers not yet taken and the number of calls made (log entry 3). -/
def State.serverPort (s : State) : List ServerAnswer × Nat :=
  (s.answers, s.serverCalls)

theorem State.serverPort_eq_iff (s t : State) :
    t.serverPort = s.serverPort ↔ t.serverCalls = s.serverCalls ∧ t.answers = s.answers := by
  rw [State.serverPort, State.serverPort, Prod.mk.injEq, and_comm]

/-! The operations that receiving, answering and the ports are made of. -/

@[simp] theorem State.takeError_serverPort (s : State) (k : ErrorKind) : (s.takeError k).serverPort = s.serverPort := by
  simp [State.serverPort]

@[simp] theorem State.resolve_serverPort (s : State) (r : CliResult) : (s.resolve r).serverPort = s.serverPort := rfl

@[simp] theorem State.discardFrame_serverPort (s : State) : s.discardFrame.serverPort = s.serverPort := rfl

/-! The receiver. -/

theorem rxHeader_serverPort (b : Byte) (s : State) : (rxHeader b s).serverPort = s.serverPort := by
  unfold rxHeader
  split
  · rfl
  · split <;> rfl

theorem rxLengthEnd_serverPort (s : State) : (rxLengthEnd s).serverPort = s.serverPort := by
  unfold rxLengthEnd
  split
  · exact State.takeError_serverPort ..
  · split <;> rfl

theorem rxLength_serverPort (b : Byte) (s : State) : (rxLength b s).serverPort = s.serverPort := by
  unfold rxLength
  dsimp only
  split
  · split
    · exact State.takeError_serverPort ..
    · rfl
  · exact rxLengthEnd_serverPort _

theorem rxHunt_serverPort (b : Byte) (s : State) : (rxHunt b s).serverPort = s.serverPort := by
  unfold rxHunt
  split <;> rfl

theorem rxPayload_serverPort (b : Byte) (s : State) : (rxPayload b s).serverPort = s.serverPort := by
  unfold rxPayload
  dsimp only
  split <;> rfl

/-- No phase of the receiver calls the Server. -/
theorem rxTake_serverPort (b : Byte) (s : State) : (rxTake b s).serverPort = s.serverPort := by
  unfold rxTake
  cases s.rxPhase with
  | h0 => exact rxHunt_serverPort b s
  | h1 => exact rxHeader_serverPort b s
  | src => rfl
  | dst => rfl
  | len => exact rxLength_serverPort b s
  | pay => exact rxPayload_serverPort b s
  | crc0 => rfl
  | crc1 => rfl

theorem rxTake_role_of_crc1 (b : Byte) (s : State) (hp : s.rxPhase = .crc1) : (rxTake b s).cfg.role = s.cfg.role := by
  simp only [rxTake, hp]
  rfl

theorem rxClose_serverPort (s : State) : (rxClose s).serverPort = s.serverPort := by
  unfold rxClose
  split
  · rfl
  · split <;> rfl

theorem validateStep_serverPort (s : State) : (validateStep s).serverPort = s.serverPort := by
  unfold validateStep
  split
  · split
    · rfl
    · exact State.takeError_serverPort ..
  · exact State.takeError_serverPort ..

/-! The client: what it executes are reply subframes, which only add to what is collected (45_client.md R230). -/

theorem exec_serverPort_of_client {i : Instr} {s t : State} (hr : s.cfg.role = .client) (hx : exec i s = .next t) :
    t.serverPort = s.serverPort := by
  obtain ⟨u, hu, hcase⟩ := exec_cases i s
  cases hu.symm.trans hx
  cases hcase with
  | wrongEnd _ ht =>
    subst ht
    exact State.takeError_serverPort ..
  | calls hsrv _ _ _ _ _ => simp [hr] at hsrv
  | poll hsrv _ _ _ _ => simp [hr] at hsrv
  | mention _ m ht =>
    subst ht
    rfl

theorem execAll_serverPort_of_client {l : List Instr} {s t : State} (hr : s.cfg.role = .client)
    (hx : execAll l s = .next t) : t.serverPort = s.serverPort := by
  have hkeeps := execAll_keeps (P := fun u => u.cfg.role = .client ∧ u.serverPort = s.serverPort)
    (fun i _ u v ⟨hru, hu⟩ hv => by
      obtain ⟨hcfg, -⟩ := exec_frame hv
      exact ⟨hcfg ▸ hru, (exec_serverPort_of_client hru hv).trans hu⟩)
    ⟨hr, rfl⟩ hx
  exact hkeeps.2

theorem conclude_serverPort (req : CliReq) (s : State) : (conclude req s).serverPort = s.serverPort := by
  unfold conclude
  split
  · exact State.takeError_serverPort ..
  · split
    · exact (State.resolve_serverPort ..).trans (State.takeError_serverPort ..)
    · rfl

theorem takeReply_serverPort {req : CliReq} {s t : State} (hr : s.cfg.role = .client)
    (hx : takeReply req s = .next t) : t.serverPort = s.serverPort := by
  obtain he | ⟨l, u, v, -, hu, hv, he⟩ := takeReply_cases req s <;> cases he.symm.trans hx
  · simp
  · have hstart : u.cfg.role = .client ∧ u.serverPort = s.serverPort := by
      obtain rfl | rfl := hu <;> simp [hr]
    obtain ⟨hru, hsu⟩ := hstart
    calc (conclude req v).serverPort
        = v.serverPort := conclude_serverPort req v
      _ = u.serverPort := execAll_serverPort_of_client hru hv
      _ = s.serverPort := hsu

theorem clientCheck_serverPort {s t : State} (hr : s.cfg.role = .client) (hx : clientCheck s = .next t) :
    t.serverPort = s.serverPort := by
  obtain he | he | he | ⟨req, -, -, -, -, he⟩ := clientCheck_cases s
  · cases he.symm.trans hx
    exact State.discardFrame_serverPort s
  · cases he.symm.trans hx
    exact State.takeError_serverPort ..
  · cases he.symm.trans hx
    exact State.takeError_serverPort ..
  · exact takeReply_serverPort hr (he.symm.trans hx)

theorem receiveByte_serverPort {b : Byte} {s t : State} (hx : receiveByte b s = .next t) :
    t.serverPort = s.serverPort := by
  unfold receiveByte at hx
  split at hx
  · next hr hp =>
    have hr' : (rxTake b s).cfg.role = .client := (rxTake_role_of_crc1 b s hp).trans hr
    exact (clientCheck_serverPort hr' hx).trans (rxTake_serverPort b s)
  · cases hx
    exact rxTake_serverPort b s

theorem requestStep_serverPort (req : Request) (s : State) : (requestStep req s).serverPort = s.serverPort := by
  unfold requestStep
  split <;> rfl

theorem clientTxDone_serverPort (ok : Bool) (s : State) : (clientTxDone ok s).serverPort = s.serverPort := by
  unfold clientTxDone
  split
  · split
    · split <;> rfl
    · rfl
  · rfl

theorem timeoutStep_serverPort (s : State) : (timeoutStep s).serverPort = s.serverPort := by
  unfold timeoutStep
  split <;> rfl

/-! The reply and the ports of a server. -/

theorem composeStep_serverPort (s : State) : (composeStep s).serverPort = s.serverPort := by
  unfold composeStep
  split <;> rfl

theorem txDone_serverPort (ok : Bool) (s : State) : (txDone ok s).serverPort = s.serverPort := by
  unfold txDone
  split
  · rfl
  · exact clientTxDone_serverPort ok s

theorem appAlloc_serverPort (ch : U32) (s : State) : (appAlloc ch s).serverPort = s.serverPort := by
  unfold appAlloc
  split <;> rfl

theorem appRead_serverPort (ch : U32) (n : Nat) (s : State) : (appRead ch n s).serverPort = s.serverPort := by
  unfold appRead
  split <;> rfl

theorem appWrite_serverPort (ch : U32) (bytes : List Byte) (s : State) :
    (appWrite ch bytes s).serverPort = s.serverPort := by
  unfold appWrite
  split <;> rfl

theorem controlWrite_serverPort (i : Nat) (v : U32) (s : State) : (controlWrite i v s).serverPort = s.serverPort := by
  cases i <;> rfl

/-! One step. -/

/-- No port event makes a Server call, at either end and in every state; the reset input leaves the port as it is (log
entry 14). -/
theorem handle_serverPort {e : PortEvent} {s t : State} (hx : handle e s = .next t) : t.serverPort = s.serverPort := by
  cases e with
  | rxByte b => exact receiveByte_serverPort hx
  | rxClose => cases hx; exact rxClose_serverPort s
  | txDone ok => cases hx; exact txDone_serverPort ok s
  | appAlloc ch => cases hx; exact appAlloc_serverPort ch s
  | appRead ch n => cases hx; exact appRead_serverPort ch n s
  | appWrite ch bytes => cases hx; exact appWrite_serverPort ch bytes s
  | configWrite v => cases hx; rfl
  | configRead => cases hx; rfl
  | statsRead k => cases hx; rfl
  | controlRead i => cases hx; rfl
  | controlWrite i v => cases hx; exact controlWrite_serverPort i v s
  | request req => cases hx; exact requestStep_serverPort req s
  | result => cases hx; rfl
  | timeout => cases hx; exact timeoutStep_serverPort s
  | reset stored => cases hx; rfl

/-- A step other than the `DISPATCH` action of a server leaves the Server port. -/
theorem step_serverPort {s t : State} (hx : step s = .next t)
    (hd : s.cfg.role = .client ∨ s.srvState ≠ .dispatch) : t.serverPort = s.serverPort := by
  cases step_cases s with
  | event e a b o _ _ _ ho => exact handle_serverPort (s := { s with inputs := a ++ b }) (ho.symm.trans hx)
  | validate _ _ ho =>
    cases ho.symm.trans hx
    exact validateStep_serverPort s
  | dispatch hr hs _ => simp [hr, hs] at hd
  | compose _ _ ho =>
    cases ho.symm.trans hx
    exact composeStep_serverPort s
  | wait ho =>
    cases ho.symm.trans hx
    rfl

/-- Settles O60, by what a step can do: only the `DISPATCH` action, which the premise excludes, makes calls. -/
theorem serverIsCalledOnlyInDispatch : Obligations.ServerIsCalledOnlyInDispatch :=
  fun s t hx hd => (State.serverPort_eq_iff s t).1 (step_serverPort hx hd)

end Sys2Proof.Machine
end

section
/-! PROOF. What the varuint decoder answers: an encoded value decodes to itself (40_varuint.md R106), and a value is
read from its own bytes alone (30_encoding.md R81 (a), R84). -/

namespace Sys2Proof.Machine

open Sys2Proof

/-! Reading a field. -/

/-- A reader of fields: it knows every tag it meets, what it gives satisfies `P`, and it gives the same from the bytes
it consumed, whatever follows them (30_encoding.md R84). -/
structure Reads {α : Type} (p : List Byte → Decoded α) (P : α → Prop) : Prop where
  known : ∀ bs tag, p bs ≠ .unknown tag
  gives : ∀ bs a rest, p bs = .ok a rest → P a
  consumes : ∀ bs a rest, p bs = .ok a rest → ∃ used, bs = used ++ rest ∧ ∀ more, p (used ++ more) = .ok a more

/-- Reading goes on only after a field that was read. -/
theorem andThen_eq_ok {α β : Type} {d : Decoded α} {f : α → List Byte → Decoded β} {b : β} {rest : List Byte} :
    d.andThen f = .ok b rest ↔ ∃ a mid, d = .ok a mid ∧ f a mid = .ok b rest := by
  cases d <;> simp [Decoded.andThen]

/-- A field and then what is read after it. -/
theorem Reads.andThen {α β : Type} {p : List Byte → Decoded α} {q : α → List Byte → Decoded β} {P : α → Prop}
    {Q : β → Prop} (hp : Reads p P) (hq : ∀ a, P a → Reads (q a) Q) : Reads (fun bs => (p bs).andThen q) Q where
  known bs tag h := by
    cases hd : p bs with
    | ok a rest => exact (hq a (hp.gives bs a rest hd)).known rest tag (by simpa [hd, Decoded.andThen] using h)
    | unknown t => exact hp.known bs t hd
    | malformed why => simp [hd, Decoded.andThen] at h
  gives bs b rest h := by
    obtain ⟨a, mid, ha, hb⟩ := andThen_eq_ok.1 h
    exact (hq a (hp.gives bs a mid ha)).gives mid b rest hb
  consumes bs b rest h := by
    obtain ⟨a, mid, ha, hb⟩ := andThen_eq_ok.1 h
    obtain ⟨used₁, rfl, hmore₁⟩ := hp.consumes bs a mid ha
    obtain ⟨used₂, rfl, hmore₂⟩ := (hq a (hp.gives _ a _ ha)).consumes mid b rest hb
    refine ⟨used₁ ++ used₂, (List.append_assoc ..).symm, fun more => andThen_eq_ok.2 ⟨a, _, ?_, hmore₂ more⟩⟩
    rw [List.append_assoc, hmore₁]

/-- Nothing more is read. -/
theorem reads_ok {α : Type} {P : α → Prop} {a : α} (ha : P a) : Reads (.ok a) P where
  known _ _ h := by cases h
  gives _ _ _ h := by cases h; exact ha
  consumes _ _ _ h := by cases h; exact ⟨[], rfl, fun _ => rfl⟩

/-- A check before what is read. -/
theorem reads_check {α : Type} {P : α → Prop} {c : Prop} [Decidable c] {why : Malformed} {q : List Byte → Decoded α}
    (hq : ¬ c → Reads q P) : Reads (fun bs => if c then .malformed why else q bs) P := by
  by_cases hc : c
  · simp only [hc, if_true]
    exact { known := nofun, gives := nofun, consumes := nofun }
  · simpa only [hc, if_false] using hq hc

/-! Varuints. -/

/-- One byte of the decoder's loop: the last one ends it. -/
theorem varDecodeLoop_last (left i acc : Nat) {b : Byte} (bs : List Byte) (hb : b.toNat < 128) :
    varDecodeLoop (left + 1) i acc (b :: bs) = some (BitVec.ofNat 32 (acc + b.toNat % 128 * 2 ^ (7 * i)), i + 1) := by
  rw [varDecodeLoop, if_pos hb]

/-- One byte of the decoder's loop: a continued one adds its chunk. -/
theorem varDecodeLoop_continued (left i acc : Nat) {b : Byte} (bs : List Byte) (hb : ¬ b.toNat < 128) :
    varDecodeLoop (left + 1) i acc (b :: bs) =
      varDecodeLoop left (i + 1) (acc + b.toNat % 128 * 2 ^ (7 * i)) bs := by
  rw [varDecodeLoop, if_neg hb]

/-- The loop reads a number of one chunk. -/
theorem varDecodeLoop_varEncodeLoop_of_lt (fuel : Nat) (rest : List Byte) {n : Nat} (i acc : Nat) (hn : n < 128) :
    varDecodeLoop (fuel + 1) i acc (varEncodeLoop (fuel + 1) n ++ rest) =
      some (BitVec.ofNat 32 (acc + n * 2 ^ (7 * i)), i + (varEncodeLoop (fuel + 1) n).length) := by
  have hb : (BitVec.ofNat 8 n).toNat = n := by
    rw [BitVec.toNat_ofNat]
    omega
  rw [varEncodeLoop, if_pos (Nat.div_eq_of_lt hn), Nat.mod_eq_of_lt hn, List.singleton_append,
    varDecodeLoop_last _ _ _ _ (by omega), hb, Nat.mod_eq_of_lt hn, List.length_singleton]

/-- The loop reads the chunks that the encoder's loop wrote, from the `i`-th on. -/
theorem varDecodeLoop_varEncodeLoop (fuel : Nat) (rest : List Byte) : ∀ n i acc, n < 128 ^ (fuel + 1) →
    varDecodeLoop (fuel + 1) i acc (varEncodeLoop (fuel + 1) n ++ rest) =
      some (BitVec.ofNat 32 (acc + n * 2 ^ (7 * i)), i + (varEncodeLoop (fuel + 1) n).length) := by
  induction fuel with
  | zero => exact fun n i acc hn => varDecodeLoop_varEncodeLoop_of_lt 0 rest i acc (by simpa using hn)
  | succ fuel ih =>
    intro n i acc hn
    by_cases hlow : n < 128
    · exact varDecodeLoop_varEncodeLoop_of_lt _ rest i acc hlow
    · have hhigh : n / 128 < 128 ^ (fuel + 1) := Nat.div_lt_of_lt_mul (by rwa [← Nat.pow_succ'])
      have hb : (BitVec.ofNat 8 (128 + n % 128)).toNat = 128 + n % 128 := by
        rw [BitVec.toNat_ofNat]
        omega
      have hsum : n % 128 * 2 ^ (7 * i) + n / 128 * 2 ^ (7 * (i + 1)) = n * 2 ^ (7 * i) := by
        conv_rhs => rw [← Nat.mod_add_div n 128]
        ring
      rw [varEncodeLoop, if_neg (by omega), List.cons_append, varDecodeLoop_continued _ _ _ _ (by omega),
        ih _ _ _ hhigh, hb, Nat.add_mod_left, Nat.mod_mod, Nat.add_assoc, hsum, List.length_cons, Nat.add_assoc,
        Nat.add_comm 1]

/-- A varuint decodes to what was encoded (40_varuint.md R106). -/
theorem varDecode_varEncode_append (v : U32) (rest : List Byte) :
    varDecode (varEncode v ++ rest) = some (v, vlen v) := by
  have h := varDecodeLoop_varEncodeLoop 4 rest v.toNat 0 0 (v.isLt.trans (by decide))
  simpa [varDecode, varEncode, vlen] using h

/-- The loop looks at no byte behind those it consumes. -/
theorem varDecodeLoop_consumes {v : U32} {n : Nat} (left : Nat) : ∀ i acc bs,
    varDecodeLoop left i acc bs = some (v, n) → ∃ used rest, bs = used ++ rest ∧ n = i + used.length ∧ ∀ more,
      varDecodeLoop left i acc (used ++ more) = some (v, n) := by
  induction left with
  | zero => intro i acc bs h; simp [varDecodeLoop] at h
  | succ left ih =>
    intro i acc bs h
    cases bs with
    | nil => simp [varDecodeLoop] at h
    | cons b bs =>
      by_cases hb : b.toNat < 128
      · have hlast := varDecodeLoop_last left i acc (b := b)
        have hn : i + 1 = n := by simpa [hlast bs hb] using congrArg (Option.map Prod.snd) h
        exact ⟨[b], bs, rfl, hn.symm, fun more => ((hlast more hb).trans (hlast bs hb).symm).trans h⟩
      · rw [varDecodeLoop_continued _ _ _ _ hb] at h
        obtain ⟨used, rest, rfl, rfl, hmore⟩ := ih _ _ _ h
        refine ⟨b :: used, rest, rfl, by rw [List.length_cons]; omega, fun more => ?_⟩
        rw [List.cons_append, varDecodeLoop_continued _ _ _ _ hb, hmore]

/-- A varuint field is read where the decoder answers. -/
theorem takeVar_eq_ok {bs rest : List Byte} {v : U32} :
    takeVar bs = .ok v rest ↔ ∃ n, varDecode bs = some (v, n) ∧ bs.drop n = rest := by
  unfold takeVar
  split
  · next w n hv => simp [hv, and_assoc]
  · next hv => simp [hv]

theorem takeVar_of_varDecode {bs : List Byte} {v : U32} {n : Nat} (h : varDecode bs = some (v, n)) :
    takeVar bs = .ok v (bs.drop n) :=
  takeVar_eq_ok.2 ⟨n, h, rfl⟩

/-- A varuint field in front of `rest`. -/
@[simp] theorem takeVar_varEncode_append (v : U32) (rest : List Byte) : takeVar (varEncode v ++ rest) = .ok v rest := by
  rw [takeVar_of_varDecode (varDecode_varEncode_append v rest), vlen, List.drop_left]

theorem takeVar_reads : Reads takeVar (fun _ => True) where
  known bs tag h := by
    unfold takeVar at h
    split at h <;> cases h
  gives _ _ _ _ := trivial
  consumes bs v rest h := by
    obtain ⟨n, hv, rfl⟩ := takeVar_eq_ok.1 h
    obtain ⟨used, rest, rfl, rfl, hmore⟩ := varDecodeLoop_consumes 5 0 0 bs hv
    refine ⟨used, by simp, fun more => ?_⟩
    rw [takeVar_of_varDecode (hmore more), Nat.zero_add, List.drop_left]

/-- A whole varuint, minimal or not, in front of `rest`. -/
theorem takeVar_append {bs : List Byte} {v : U32} (h : varDecode bs = some (v, bs.length)) (rest : List Byte) :
    takeVar (bs ++ rest) = .ok v rest := by
  have hwhole : takeVar bs = .ok v [] := by rw [takeVar_of_varDecode h, List.drop_length]
  obtain ⟨used, hused, hmore⟩ := takeVar_reads.consumes bs v [] hwhole
  rw [hused, List.append_nil, hmore]

/-- Settles O9: the decoder goes on from the tag's value and the bytes after it. -/
theorem tagIsIdentifiedByValue : Obligations.TagIsIdentifiedByValue := by
  intro bufferSize tagBytes body tag h
  unfold decode
  rw [takeVar_append h, takeVar_varEncode_append]

end Sys2Proof.Machine
end

section
/-! PROOF. The subframe decoder: what it gives back of an encoded subframe (30_encoding.md R80, R84), and what it gives
at all (R77, R81, R82). Both by the six shapes of a body, then tag by tag. -/

namespace Sys2Proof.Machine

open Sys2Proof

/-! Little-endian values (20_memory.md R53). -/

theorem leNat_leBytes (size : Nat) : ∀ {x : Nat}, x < 256 ^ size → leNat (leBytes size x) = x := by
  induction size with
  | zero => intro x hx; exact (Nat.lt_one_iff.1 hx).symm
  | succ size ih =>
    intro x hx
    have hhigh : x / 256 < 256 ^ size := Nat.div_lt_of_lt_mul (by rwa [← Nat.pow_succ'])
    rw [leBytes, leNat, ih hhigh, BitVec.toNat_ofNat]
    omega

/-- The bytes of a word, read again. -/
theorem ofNat_leNat_leBytes {w size : Nat} (hw : w = 8 * size) (v : BitVec w) :
    BitVec.ofNat w (leNat (leBytes size v.toNat)) = v := by
  subst hw
  rw [leNat_leBytes size (by simpa [Nat.pow_mul] using v.isLt), BitVec.ofNat_toNat, BitVec.setWidth_eq]

/-- The values of a multiple form, read again. -/
theorem chunkValues_flatMap_leBytes {w size : Nat} (hw : w = 8 * size) (rest : List Byte) (vs : List (BitVec w)) :
    (chunkValues size vs.length ((vs.map BitVec.toNat).flatMap (leBytes size) ++ rest)).map (BitVec.ofNat w) = vs := by
  induction vs with
  | nil => rfl
  | cons v vs ih =>
    have hlen := Laws.leBytes_length size v.toNat
    simp only [List.length_cons, List.map_cons, List.flatMap_cons, List.append_assoc, chunkValues,
      List.take_left' hlen, List.drop_left' hlen, ofNat_leNat_leBytes hw, ih]

theorem chunkValues_length (size n : Nat) : ∀ bs, (chunkValues size n bs).length = n := by
  induction n with
  | zero => exact fun _ => rfl
  | succ n ih => exact fun bs => congrArg (· + 1) (ih _)

/-- The values of a multiple form are read from their own bytes. -/
theorem chunkValues_take (size n : Nat) : ∀ bs, chunkValues size n (bs.take (n * size)) = chunkValues size n bs := by
  induction n with
  | zero => exact fun _ => rfl
  | succ n ih =>
    intro bs
    rw [chunkValues, chunkValues, List.take_take, List.drop_take, Nat.succ_mul, Nat.add_sub_cancel, ih,
      Nat.min_eq_left (Nat.le_add_left ..)]

/-! Bytes taken from the head. -/

theorem takeBytes_eq_ok {k : Nat} {bs bytes rest : List Byte} :
    takeBytes k bs = .ok bytes rest ↔ bytes.length = k ∧ bs = bytes ++ rest := by
  unfold takeBytes
  constructor
  · intro h
    split at h
    · cases h
    · next hlen =>
      cases h
      exact ⟨List.length_take_of_le (Nat.le_of_not_lt hlen), (List.take_append_drop k bs).symm⟩
  · rintro ⟨rfl, rfl⟩
    simp

theorem takeBytes_append {k : Nat} {bytes : List Byte} (h : bytes.length = k) (rest : List Byte) :
    takeBytes k (bytes ++ rest) = .ok bytes rest :=
  takeBytes_eq_ok.2 ⟨h, rfl⟩

theorem takeBytes_reads (k : Nat) : Reads (takeBytes k) (fun bytes => bytes.length = k) where
  known bs tag h := by
    unfold takeBytes at h
    split at h <;> cases h
  gives _ _ _ h := (takeBytes_eq_ok.1 h).1
  consumes _ bytes _ h := ⟨bytes, (takeBytes_eq_ok.1 h).2, takeBytes_append (takeBytes_eq_ok.1 h).1⟩

/-! The shapes of a body (30_encoding.md R80). -/

theorem u32_toNat_ofNat {n : Nat} (h : n < 2 ^ 32) : (BitVec.ofNat 32 n).toNat = n := by
  rw [BitVec.toNat_ofNat, Nat.mod_eq_of_lt h]

theorem rangeWf_iff {start : U32} {n : Nat} : rangeWf start n = true ↔ n < 2 ^ 32 ∧ start.toNat + n ≤ 2 ^ 32 := by
  simp [rangeWf]

theorem readRangeWf_iff {bufferSize : Nat} {start count : U32} :
    readRangeWf bufferSize start count = true ↔ start.toNat + count.toNat ≤ 2 ^ 32 ∧ count.toNat ≤ bufferSize := by
  have := count.isLt
  simp [readRangeWf, rangeWf_iff, this]

theorem regBody_encode (mk : U32 → Instr) (reg : U32) (rest : List Byte) :
    regBody mk (varEncode reg ++ rest) = .ok (mk reg) rest := by
  simp [regBody, Decoded.andThen]

theorem regValueBody_encode {w : Nat} (size : Nat) (mk : U32 → BitVec w → Instr) (reg : U32) (v : BitVec w)
    (hw : w = 8 * size) (rest : List Byte) :
    regValueBody size (fun reg n => mk reg (BitVec.ofNat w n)) (encodeRegValue size reg v.toNat ++ rest) =
      .ok (mk reg v) rest := by
  simp [regValueBody, encodeRegValue, Decoded.andThen, takeBytes_append (Laws.leBytes_length size v.toNat),
    ofNat_leNat_leBytes hw]

theorem multiBody_encode {w : Nat} (size : Nat) (mk : U32 → List (BitVec w) → Instr) {start : U32}
    {vs : List (BitVec w)} (hw : w = 8 * size) (h : rangeWf start vs.length = true) (rest : List Byte) :
    multiBody size (fun start ns => mk start (ns.map (BitVec.ofNat w)))
      (encodeMulti size start (vs.map BitVec.toNat) ++ rest) = .ok (mk start vs) rest := by
  obtain ⟨hlt, hrange⟩ := rangeWf_iff.1 h
  have hlen : ((vs.map BitVec.toNat).flatMap (leBytes size)).length = vs.length * size := by
    rw [Laws.flatMap_leBytes_length, List.length_map]
  simp only [multiBody, encodeMulti, List.append_assoc, takeVar_varEncode_append, Decoded.andThen, List.length_map,
    u32_toNat_ofNat hlt, chunkValues_flatMap_leBytes hw, List.drop_left' hlen]
  rw [if_neg (by omega), if_neg (by rw [List.length_append]; omega)]

theorem readMultiBody_encode {bufferSize : Nat} (mk : U32 → U32 → Instr) {start count : U32}
    (h : readRangeWf bufferSize start count = true) (rest : List Byte) :
    readMultiBody bufferSize mk (encodePair start count ++ rest) = .ok (mk start count) rest := by
  obtain ⟨hrange, hcount⟩ := readRangeWf_iff.1 h
  simp only [readMultiBody, encodePair, List.append_assoc, takeVar_varEncode_append, Decoded.andThen]
  rw [if_neg (by omega), if_neg (by omega)]

theorem errorBody_encode (mk : U32 → U32 → Instr) (reg code : U32) (rest : List Byte) :
    errorBody mk (encodePair reg code ++ rest) = .ok (mk reg code) rest := by
  simp [errorBody, encodePair, Decoded.andThen]

theorem tunnelBody_encode (mk : U32 → List Byte → Instr) (channel : U32) {bytes : List Byte} (h : bytesWf bytes = true)
    (rest : List Byte) : tunnelBody mk (encodeTunnel channel bytes ++ rest) = .ok (mk channel bytes) rest := by
  have hlt : bytes.length < 2 ^ 32 := by simpa [bytesWf] using h
  simp only [tunnelBody, encodeTunnel, List.append_assoc, takeVar_varEncode_append, Decoded.andThen,
    u32_toNat_ofNat hlt, takeBytes_append rfl]

/-! Decoding an encoded subframe. -/

/-- The body of each instruction behind its tag. -/
theorem decodeBody_body {bufferSize : Nat} {i : Instr} (h : i.wf bufferSize = true) (rest : List Byte) :
    decodeBody bufferSize (BitVec.ofNat 32 i.tag) (i.body ++ rest) = .ok i rest := by
  cases i with
  | wrI8 reg v => exact regValueBody_encode 1 .wrI8 reg v rfl rest
  | wrI16 reg v => exact regValueBody_encode 2 .wrI16 reg v rfl rest
  | wrI32 reg v => exact regValueBody_encode 4 .wrI32 reg v rfl rest
  | wrF32 reg v => exact regValueBody_encode 4 .wrF32 reg v rfl rest
  | wrmI8 start vs => exact multiBody_encode 1 .wrmI8 rfl h rest
  | wrmI16 start vs => exact multiBody_encode 2 .wrmI16 rfl h rest
  | wrmI32 start vs => exact multiBody_encode 4 .wrmI32 rfl h rest
  | wrmF32 start vs => exact multiBody_encode 4 .wrmF32 rfl h rest
  | rdI8 reg => exact regBody_encode .rdI8 reg rest
  | rdI16 reg => exact regBody_encode .rdI16 reg rest
  | rdI32 reg => exact regBody_encode .rdI32 reg rest
  | rdF32 reg => exact regBody_encode .rdF32 reg rest
  | rdmI8 start count => exact readMultiBody_encode .rdmI8 h rest
  | rdmI16 start count => exact readMultiBody_encode .rdmI16 h rest
  | rdmI32 start count => exact readMultiBody_encode .rdmI32 h rest
  | rdmF32 start count => exact readMultiBody_encode .rdmF32 h rest
  | rplI8 reg v => exact regValueBody_encode 1 .rplI8 reg v rfl rest
  | rplI16 reg v => exact regValueBody_encode 2 .rplI16 reg v rfl rest
  | rplI32 reg v => exact regValueBody_encode 4 .rplI32 reg v rfl rest
  | rplF32 reg v => exact regValueBody_encode 4 .rplF32 reg v rfl rest
  | rplmI8 start vs => exact multiBody_encode 1 .rplmI8 rfl h rest
  | rplmI16 start vs => exact multiBody_encode 2 .rplmI16 rfl h rest
  | rplmI32 start vs => exact multiBody_encode 4 .rplmI32 rfl h rest
  | rplmF32 start vs => exact multiBody_encode 4 .rplmF32 rfl h rest
  | werr reg code => exact errorBody_encode .werr reg code rest
  | rerr reg code => exact errorBody_encode .rerr reg code rest
  | tunC2S channel bytes => exact tunnelBody_encode .tunC2S channel h rest
  | tunS2C channel bytes => exact tunnelBody_encode .tunS2C channel h rest

/-- Settles O6: the tag is read first and names the shape of the body. -/
theorem decodeOfEncode : Obligations.DecodeOfEncode := by
  intro bufferSize i rest h
  rw [decode, encode, List.append_assoc, takeVar_varEncode_append, Decoded.andThen, decodeBody_body h]

/-! What each shape of a body reads. -/

section

variable {P : Instr → Prop}

theorem regBody_reads {mk : U32 → Instr} (h : ∀ reg, P (mk reg)) : Reads (regBody mk) P :=
  takeVar_reads.andThen fun reg _ => reads_ok (h reg)

theorem regValueBody_reads {w size : Nat} {mk : U32 → BitVec w → Instr} (h : ∀ reg v, P (mk reg v)) :
    Reads (regValueBody size fun reg n => mk reg (BitVec.ofNat w n)) P :=
  takeVar_reads.andThen fun reg _ => (takeBytes_reads size).andThen fun _ _ => reads_ok (h reg _)

/-- The values of a multiple form are bytes taken from the head, cut into values. -/
theorem values_eq_takeBytes (size n : Nat) (f : List Nat → Instr) (bs : List Byte) :
    (if bs.length < n * size then .malformed .cut else .ok (f (chunkValues size n bs)) (bs.drop (n * size))) =
      (takeBytes (n * size) bs).andThen fun bytes rest => .ok (f (chunkValues size n bytes)) rest := by
  unfold takeBytes
  split
  · rfl
  · rw [Decoded.andThen, chunkValues_take]

theorem values_reads {size n : Nat} {f : List Nat → Instr} (h : ∀ ns, ns.length = n → P (f ns)) :
    Reads (fun bs => if bs.length < n * size then .malformed .cut
      else .ok (f (chunkValues size n bs)) (bs.drop (n * size))) P := by
  simp only [values_eq_takeBytes]
  exact (takeBytes_reads _).andThen fun _ _ => reads_ok (h _ (chunkValues_length ..))

theorem multiBody_reads {w size : Nat} {mk : U32 → List (BitVec w) → Instr}
    (h : ∀ start vs, rangeWf start vs.length = true → P (mk start vs)) :
    Reads (multiBody size fun start ns => mk start (ns.map (BitVec.ofNat w))) P :=
  takeVar_reads.andThen fun start _ => takeVar_reads.andThen fun count _ => reads_check fun hrange =>
    values_reads fun ns hns => h start _ <| by
      rw [List.length_map, hns, rangeWf_iff]
      exact ⟨count.isLt, Nat.le_of_not_lt hrange⟩

theorem readMultiBody_reads {bufferSize : Nat} {mk : U32 → U32 → Instr}
    (h : ∀ start count, readRangeWf bufferSize start count = true → P (mk start count)) :
    Reads (readMultiBody bufferSize mk) P :=
  takeVar_reads.andThen fun start _ => takeVar_reads.andThen fun count _ => reads_check fun hrange =>
    reads_check fun hcount => reads_ok <|
      h start count (readRangeWf_iff.2 ⟨Nat.le_of_not_lt hrange, Nat.le_of_not_lt hcount⟩)

theorem errorBody_reads {mk : U32 → U32 → Instr} (h : ∀ reg code, P (mk reg code)) : Reads (errorBody mk) P :=
  takeVar_reads.andThen fun reg _ => takeVar_reads.andThen fun code _ => reads_ok (h reg code)

theorem tunnelBody_reads {mk : U32 → List Byte → Instr}
    (h : ∀ channel bytes, bytesWf bytes = true → P (mk channel bytes)) : Reads (tunnelBody mk) P :=
  takeVar_reads.andThen fun channel _ => takeVar_reads.andThen fun count _ =>
    (takeBytes_reads count.toNat).andThen fun bytes hlen => reads_ok <| h channel bytes <| by
      simpa [bytesWf, hlen] using count.isLt

end

/-! What a tag reads (30_encoding.md R77, R81, R82). -/

/-- The tags of the two classes. -/
theorem tagClass_ne_unknown_iff {t : Nat} : tagClass t ≠ .unknown ↔ (0x10 ≤ t ∧ t ≤ 0x29) ∨ t = 0x40 ∨ t = 0x41 := by
  grind [tagClass]

/-- The body behind a tag of a class is read as a well-formed subframe of that tag. -/
theorem decodeBody_reads (bufferSize : Nat) {tag : U32} (h : tagClass tag.toNat ≠ .unknown) :
    Reads (decodeBody bufferSize tag) fun i => i.tag = tag.toNat ∧ i.wf bufferSize = true := by
  unfold decodeBody
  generalize tag.toNat = t at h ⊢
  rcases tagClass_ne_unknown_iff.1 h with ⟨hlow, hhigh⟩ | rfl | rfl
  · interval_cases t
    -- 0x10 to 0x17, the writes
    iterate 4 exact regValueBody_reads fun _ _ => ⟨rfl, rfl⟩
    iterate 4 exact multiBody_reads fun _ _ hwf => ⟨rfl, hwf⟩
    -- 0x18 to 0x1F, the reads
    iterate 4 exact regBody_reads fun _ => ⟨rfl, rfl⟩
    iterate 4 exact readMultiBody_reads fun _ _ hwf => ⟨rfl, hwf⟩
    -- 0x20 to 0x27, the replies
    iterate 4 exact regValueBody_reads fun _ _ => ⟨rfl, rfl⟩
    iterate 4 exact multiBody_reads fun _ _ hwf => ⟨rfl, hwf⟩
    -- 0x28 and 0x29, the errors
    iterate 2 exact errorBody_reads fun _ _ => ⟨rfl, rfl⟩
  · exact tunnelBody_reads fun _ _ hwf => ⟨rfl, hwf⟩
  · exact tunnelBody_reads fun _ _ hwf => ⟨rfl, hwf⟩

/-- A tag of no class is unknown, whatever follows it. -/
theorem decodeBody_unknown (bufferSize : Nat) {tag : U32} (h : tagClass tag.toNat = .unknown) (bs : List Byte) :
    decodeBody bufferSize tag bs = .unknown tag := by
  have hnone : ¬ ((0x10 ≤ tag.toNat ∧ tag.toNat ≤ 0x29) ∨ tag.toNat = 0x40 ∨ tag.toNat = 0x41) :=
    fun ht => tagClass_ne_unknown_iff.2 ht h
  unfold decodeBody
  split
  case h_29 => rfl
  all_goals omega

theorem decode_of_varDecode (bufferSize : Nat) {bytes : List Byte} {tag : U32} {used : Nat}
    (h : varDecode bytes = some (tag, used)) :
    decode bufferSize bytes = decodeBody bufferSize tag (bytes.drop used) := by
  rw [decode, takeVar_of_varDecode h, Decoded.andThen]

/-- Settles O7: a tag is read and then the body of its class; where no byte was consumed, nothing would decode. -/
theorem decodedSubframeIsWellFormed : Obligations.DecodedSubframeIsWellFormed := by
  intro bufferSize bytes i rest h
  obtain ⟨tag, body, htag, hbody⟩ := andThen_eq_ok.1 h
  have hclass : tagClass tag.toNat ≠ .unknown := fun hu => by simp [decodeBody_unknown bufferSize hu] at hbody
  have hreads := decodeBody_reads bufferSize hclass
  obtain ⟨tagBytes, rfl, htagMore⟩ := takeVar_reads.consumes _ _ _ htag
  obtain ⟨bodyBytes, rfl, hbodyMore⟩ := hreads.consumes _ _ _ hbody
  have hmore : ∀ more, decode bufferSize (tagBytes ++ bodyBytes ++ more) = .ok i more := by
    intro more
    rw [decode, List.append_assoc, htagMore, Decoded.andThen, hbodyMore]
  refine ⟨(hreads.gives _ _ _ hbody).2, tagBytes ++ bodyBytes, (List.append_assoc ..).symm, ?_, hmore⟩
  intro hnil
  have hempty : decode bufferSize [] = .ok i [] := by simpa [hnil] using hmore []
  cases hempty

/-! The two directions (30_encoding.md R82). -/

theorem isRequest_eq (i : Instr) : i.isRequest = decide (tagClass i.tag = .request) := by
  cases i <;> rfl

/-- A role decodes the class it takes. -/
theorem decodeAt_eq_decode {role : Role} {bufferSize : Nat} {bs : List Byte}
    (h : ∀ i rest, decode bufferSize bs = .ok i rest → role.takes i = true) :
    decodeAt role bufferSize bs = decode bufferSize bs := by
  unfold decodeAt
  cases hd : decode bufferSize bs with
  | ok i rest => simp [h i rest hd]
  | unknown tag => rfl
  | malformed why => rfl

/-- The other class is malformed, whatever the body. -/
theorem decodeAt_malformed {role : Role} {bufferSize : Nat} {bs : List Byte}
    (hk : ∀ t, decode bufferSize bs ≠ .unknown t)
    (h : ∀ i rest, decode bufferSize bs = .ok i rest → role.takes i = false) :
    ∃ why, decodeAt role bufferSize bs = .malformed why := by
  unfold decodeAt
  cases hd : decode bufferSize bs with
  | ok i rest => exact ⟨.direction, by simp [h i rest hd]⟩
  | unknown tag => exact absurd hd (hk tag)
  | malformed why => exact ⟨why, rfl⟩

/-- Behind a tag of a class a subframe of that class is decoded, or nothing is. -/
theorem decode_of_tagClass (bufferSize : Nat) {bytes : List Byte} {tag : U32} {used : Nat}
    (h : varDecode bytes = some (tag, used)) (hc : tagClass tag.toNat ≠ .unknown) :
    (∀ t, decode bufferSize bytes ≠ .unknown t) ∧ ∀ i rest, decode bufferSize bytes = .ok i rest →
      i.isRequest = decide (tagClass tag.toNat = .request) := by
  have hreads := decodeBody_reads bufferSize hc
  rw [decode_of_varDecode bufferSize h]
  refine ⟨hreads.known _, fun i rest hi => ?_⟩
  rw [isRequest_eq, (hreads.gives _ i rest hi).1]

/-- Settles O8: what is decoded has the tag that was read, so its class is the tag's. -/
theorem tagClassDecidesDirection : Obligations.TagClassDecidesDirection := by
  intro bufferSize bytes tag used h
  cases hc : tagClass tag.toNat with
  | request =>
    obtain ⟨hknown, hclass⟩ := decode_of_tagClass bufferSize h (by simp [hc])
    have hrequest : ∀ i rest, decode bufferSize bytes = .ok i rest → i.isRequest = true := by simpa [hc] using hclass
    exact ⟨decodeAt_eq_decode hrequest, hknown,
      decodeAt_malformed hknown fun i rest hi => by simp [Role.takes, hrequest i rest hi]⟩
  | reply =>
    obtain ⟨hknown, hclass⟩ := decode_of_tagClass bufferSize h (by simp [hc])
    have hreply : ∀ i rest, decode bufferSize bytes = .ok i rest → i.isRequest = false := by simpa [hc] using hclass
    exact ⟨decodeAt_eq_decode fun i rest hi => by simp [Role.takes, hreply i rest hi], hknown,
      decodeAt_malformed hknown hreply⟩
  | unknown =>
    have hunknown := (decode_of_varDecode bufferSize h).trans (decodeBody_unknown bufferSize hc _)
    simp only [decodeAt, hunknown, and_self]

end Sys2Proof.Machine
end

section
/-! PROOF. The fields of an encoded frame (30_encoding.md R72, R74; 41_frame_codec.md R112, R113). -/

namespace Sys2Proof.Machine

open Sys2Proof

/-! The source byte (30_encoding.md R74). -/

theorem sourceByte_toNat (src : BitVec 7) (rr : Bool) :
    (sourceByte src rr).toNat = (if rr then 128 else 0) + src.toNat := by
  have h : (sourceByte src rr).toNat = rr.toNat * 2 ^ 7 + src.toNat := by
    rw [sourceByte, BitVec.toNat_append, BitVec.toNat_ofBool, ← Nat.shiftLeft_add_eq_or_of_lt src.isLt,
      Nat.shiftLeft_eq]
  cases rr <;> exact h

@[simp] theorem sourceId_sourceByte (src : BitVec 7) (rr : Bool) : sourceId (sourceByte src rr) = src :=
  BitVec.setWidth_append_eq_right

@[simp] theorem responseRequested_sourceByte (src : BitVec 7) (rr : Bool) :
    responseRequested (sourceByte src rr) = rr :=
  BitVec.msb_append.trans (by simp)

/-! The checksum's bytes (20_memory.md R52). -/

/-- Low byte first, the two bytes make up the checksum. -/
theorem crcBytes_toNat (c : U16) : (c.setWidth 8).toNat + 256 * ((c >>> 8).setWidth 8).toNat = c.toNat := by
  rw [BitVec.toNat_setWidth, BitVec.toNat_setWidth, BitVec.toNat_ushiftRight, Nat.shiftRight_eq_div_pow]
  omega

/-- The length of a frame, `6 + L + N`. -/
theorem encodeFrame_length (p : CrcParams) (src : BitVec 7) (rr : Bool) (dst : Byte) (payload : List Byte) :
    (encodeFrame p src rr dst payload).length = 6 + vlen (BitVec.ofNat 32 payload.length) + payload.length := by
  simp only [encodeFrame, frameHead, crcBytes, vlen, List.length_append, List.length_cons, List.length_nil]
  omega

/-- Settles O11, field by field. -/
theorem frameLayout : Obligations.FrameLayout := fun p src rr dst payload =>
  ⟨sourceByte src rr, _, _, frameHead src rr dst payload, rfl, rfl, sourceByte_toNat src rr,
    sourceId_sourceByte src rr, responseRequested_sourceByte src rr, crcBytes_toNat _,
    encodeFrame_length p src rr dst payload⟩

end Sys2Proof.Machine
end

section
/-! PROOF. The two varuint loops in full: how many bytes the encoder writes (40_varuint.md R101), and what the decoder
answers on every list of bytes (40_varuint.md R102 to R106). -/

namespace Sys2Proof.Machine

open Sys2Proof

/-- Settles O1: every chunk written is read, and no byte behind them. -/
theorem varuintRoundTrip : Obligations.VaruintRoundTrip :=
  varDecode_varEncode_append

/-! The encoder's length is the number of base-128 digits. -/

/-- The loop writes a number of one chunk as one byte. -/
theorem varEncodeLoop_length_of_lt (fuel : Nat) {n : Nat} (hn : n < 128) :
    (varEncodeLoop (fuel + 1) n).length = 1 := by
  rw [varEncodeLoop, if_pos (Nat.div_eq_of_lt hn), List.length_singleton]

/-- The loop writes one byte in front of those of the higher chunks. -/
theorem varEncodeLoop_length_of_le (fuel : Nat) {n : Nat} (hn : 128 ≤ n) :
    (varEncodeLoop (fuel + 1) n).length = (varEncodeLoop fuel (n / 128)).length + 1 := by
  rw [varEncodeLoop, if_neg (by omega), List.length_cons]

/-- With fuel for every chunk the loop writes one byte for each base-128 digit, and one for 0. -/
theorem varEncodeLoop_length (fuel : Nat) : ∀ n, n < 128 ^ (fuel + 1) →
    (varEncodeLoop (fuel + 1) n).length = Nat.log 128 n + 1 := by
  induction fuel with
  | zero =>
    intro n hn
    have hlow : n < 128 := by simpa using hn
    rw [varEncodeLoop_length_of_lt 0 hlow, Nat.log_of_lt hlow]
  | succ fuel ih =>
    intro n hn
    rcases Nat.lt_or_ge n 128 with hlow | hmore
    · rw [varEncodeLoop_length_of_lt _ hlow, Nat.log_of_lt hlow]
    · have hhigh : n / 128 < 128 ^ (fuel + 1) := Nat.div_lt_of_lt_mul (by rwa [← Nat.pow_succ'])
      rw [varEncodeLoop_length_of_le _ hmore, ih _ hhigh, Nat.log_of_one_lt_of_le (by decide) hmore]

/-- The length of a varuint in digits (40_varuint.md R101). -/
theorem vlen_eq_log (v : U32) : vlen v = Nat.log 128 v.toNat + 1 :=
  varEncodeLoop_length 4 v.toNat (v.isLt.trans (by decide))

/-- A varuint takes `k + 1` bytes where its value lies from `128 ^ k` below `128 ^ (k + 1)`. -/
theorem vlen_of_pow_le_of_lt_pow {v : U32} {k : Nat} (hlow : 128 ^ k ≤ v.toNat) (hhigh : v.toNat < 128 ^ (k + 1)) :
    vlen v = k + 1 := by
  rw [vlen_eq_log, Nat.log_eq_of_pow_le_of_lt_pow hlow hhigh]

/-- Settles O3: one case for each bound of the table. -/
theorem varuintLength : Obligations.VaruintLength := by
  intro v
  have hv := v.isLt
  split_ifs with h7 h14 h21 h28
  · rw [vlen_eq_log, Nat.log_of_lt (by omega)]
  · exact vlen_of_pow_le_of_lt_pow (k := 1) (by omega) (by omega)
  · exact vlen_of_pow_le_of_lt_pow (k := 2) (by omega) (by omega)
  · exact vlen_of_pow_le_of_lt_pow (k := 3) (by omega) (by omega)
  · exact vlen_of_pow_le_of_lt_pow (k := 4) (by omega) (by omega)

/-! The continuation flag is bit 7 (30_encoding.md R71). -/

theorem byte_lt_128_iff_msb (b : Byte) : b.toNat < 128 ↔ b.msb = false := by
  rw [BitVec.msb_eq_false_iff_two_mul_lt]
  omega

theorem not_byte_lt_128_iff_msb (b : Byte) : ¬ b.toNat < 128 ↔ b.msb = true := by
  rw [byte_lt_128_iff_msb, Bool.not_eq_false]

/-! What the decoder answers. -/

/-- The loop fails exactly where no byte that it may read ends the varuint; a list that ends early has none. -/
theorem varDecodeLoop_eq_none_iff (left : Nat) : ∀ i acc bs,
    varDecodeLoop left i acc bs = none ↔ ∀ b ∈ bs.take left, b.msb = true := by
  induction left with
  | zero => simp [varDecodeLoop]
  | succ left ih =>
    intro i acc bs
    cases bs with
    | nil => simp [varDecodeLoop]
    | cons b bs =>
      rw [List.take_succ_cons, List.forall_mem_cons]
      by_cases hb : b.toNat < 128
      · simp [varDecodeLoop_last left i acc bs hb, (byte_lt_128_iff_msb b).1 hb]
      · simp [varDecodeLoop_continued left i acc bs hb, (not_byte_lt_128_iff_msb b).1 hb, ih]

/-- A varuint is malformed where none of its first five bytes ends it (40_varuint.md R103). -/
theorem varDecode_eq_none_iff (buf : List Byte) : varDecode buf = none ↔ ∀ b ∈ buf.take 5, b.msb = true :=
  varDecodeLoop_eq_none_iff 5 0 0 buf

/-- Settles O4: a list of fewer than five bytes is its own first five. -/
theorem varuintMalformedExactly : Obligations.VaruintMalformedExactly := by
  intro buf
  rw [varDecode_eq_none_iff]
  rcases Nat.lt_or_ge buf.length 5 with hshort | hlong
  · simp [hshort, Nat.not_le_of_lt hshort, List.take_of_length_le hshort.le]
  · simp [hlong, Nat.not_lt_of_le hlong]

/-- From the `i`-th byte on, the loop adds the chunks of the continued bytes and of the one that ends them, minimal or
not, and consumes them all. -/
theorem varDecodeLoop_append_last {last : Byte} (rest : List Byte) (hlast : last.msb = false) (init : List Byte) :
    ∀ left i acc, init.length < left → (∀ b ∈ init, b.msb = true) →
      varDecodeLoop left i acc (init ++ last :: rest) =
        some (BitVec.ofNat 32 (acc + chunkSum (init ++ [last]) * 2 ^ (7 * i)), i + (init.length + 1)) := by
  induction init with
  | nil =>
    rintro (_ | left) i acc hleft -
    · cases hleft
    · simp [varDecodeLoop_last left i acc rest ((byte_lt_128_iff_msb last).2 hlast)]
  | cons b init ih =>
    rintro (_ | left) i acc hleft hinit
    · cases hleft
    · obtain ⟨hb, hinit⟩ := List.forall_mem_cons.1 hinit
      have hsum (high : Nat) : acc + b.toNat % 128 * 2 ^ (7 * i) + high * 2 ^ (7 * (i + 1)) =
          acc + (b.toNat % 128 + 128 * high) * 2 ^ (7 * i) := by ring
      rw [List.cons_append, varDecodeLoop_continued _ _ _ _ ((not_byte_lt_128_iff_msb b).2 hb),
        ih left _ _ (Nat.lt_of_succ_lt_succ hleft) hinit, hsum, List.cons_append, chunkSum_cons, List.length_cons,
        Nat.add_right_comm i, Nat.add_assoc i]

/-- Settles O5: the loop from the first byte on, with five bytes to read. -/
theorem varuintDecodesSum : Obligations.VaruintDecodesSum := by
  intro init last rest hlen hinit hlast
  have h := varDecodeLoop_append_last rest hlast init 5 0 0 (Nat.lt_succ_of_le hlen) hinit
  simpa [varDecode, chunkSum] using h

end Sys2Proof.Machine
end

section
/-! PROOF. The ends of a frame: a server's checks in `VALIDATE` (41_frame_codec.md R123 to R126), closing the stream
(R127, 45_client.md R238), and the reply that a client takes (45_client.md R227 to R234). -/

namespace Sys2Proof.Machine

open Sys2Proof

/-! Taking a frame-level error (60_exceptions.md R256). -/

theorem State.discardFrame_eq_of_client {s : State} (hr : s.cfg.role = .client) :
    s.discardFrame = { s with rxBytes := [], rxPay := [], rxPhase := .h0 } := by
  simp only [State.discardFrame, hr]

theorem State.discardFrame_eq_of_server {s : State} (hr : s.cfg.role = .server) :
    s.discardFrame = { s with rxBytes := [], rxPay := [], rxPhase := .h0, srvState := .idle } := by
  simp only [State.discardFrame, hr]

/-- Counting a frame and discarding it, at either end. -/
theorem State.count_discardFrame (s : State) (k : ErrorKind) : (s.count k).discardFrame = droppedFrame k s := by
  cases hr : s.cfg.role <;> simp [State.discardFrame, State.count, droppedFrame, hr]

/-! `VALIDATE`. -/

theorem checksumOk_iff (s : State) :
    checksumOk s = true ↔ frameCrc s.cfg.crc (s.rxBytes.take (s.rxBytes.length - 2)) = s.rxCrc :=
  decide_eq_true_iff

theorem destinationOk_iff (s : State) :
    destinationOk s = true ↔ s.rxDst = s.nodeId ∨ s.cfg.broadcastId = some s.rxDst := by
  simp [destinationOk]

/-- The step of a server in `VALIDATE` runs the checks. -/
theorem step_of_validate {s : State} (hr : s.cfg.role = .server) (hs : s.srvState = .validate)
    (hn : noEarlyEvent s) : step s = .next (validateStep s) := by
  rw [step_of_noEarlyEvent hn]
  simp only [engineStep, hr, hs]

theorem validateStep_of_badChecksum {s : State} (hc : ¬ checksumOk s = true) :
    validateStep s = droppedFrame .checksumMismatch s := by
  rw [validateStep, if_neg hc]
  exact State.count_discardFrame s .checksumMismatch

theorem validateStep_of_badDestination {s : State} (hc : checksumOk s = true) (hd : ¬ destinationOk s = true) :
    validateStep s = droppedFrame .wrongId s := by
  rw [validateStep, if_pos hc, if_neg hd]
  exact State.count_discardFrame s .wrongId

theorem validateStep_of_good {s : State} (hc : checksumOk s = true) (hd : destinationOk s = true) :
    validateStep s = s.acceptFrame := by
  rw [validateStep, if_pos hc, if_pos hd]

/-- Settles O16, one branch of the checks for each clause. -/
theorem validateChecksInOrder : Obligations.ValidateChecksInOrder := by
  intro s hr hs hn
  rw [step_of_validate hr hs hn, ← checksumOk_iff, ← destinationOk_iff]
  refine ⟨fun hc => ?_, fun hc hd => ?_, fun hc hd => ?_⟩
  · rw [validateStep_of_badChecksum (mt (checksumOk_iff s).1 hc)]
  · rw [validateStep_of_badDestination hc hd]
  · rw [validateStep_of_good hc hd]
    rfl

/-! Closing the stream. -/

/-- Settles O17: the discard of each role, before and after acceptance. -/
theorem rxCloseDropsPartialFrame : Obligations.RxCloseDropsPartialFrame := by
  intro s
  refine ⟨fun hr => ?_, fun hr hs => ?_, fun hr hs => ?_⟩
  · simp only [handle, rxClose, hr, State.discardFrame_eq_of_client]
  · rcases hs with hs | hs | hs <;> simp only [handle, rxClose, hr, hs, State.discardFrame_eq_of_server]
  · rcases hs with hs | hs | hs <;> simp only [handle, rxClose, hr, hs]

/-! The walk of a payload, in any encoding (30_encoding.md R84, 42_dispatcher.md R144, 45_client.md R230). -/

/-- A subframe that the decoder gives takes a byte at least. -/
theorem decode_ok_length {bufferSize : Nat} {bytes rest : List Byte} {i : Instr}
    (h : decode bufferSize bytes = .ok i rest) : rest.length < bytes.length := by
  obtain ⟨-, used, rfl, hused, -⟩ := decodedSubframeIsWellFormed bufferSize bytes i rest h
  rw [List.length_append]
  exact Nat.lt_add_of_pos_left (List.length_pos_of_ne_nil hused)

theorem decodeAt_of_takes {role : Role} {bufferSize : Nat} {bytes rest : List Byte} {i : Instr}
    (h : decode bufferSize bytes = .ok i rest) (hi : role.takes i = true) :
    decodeAt role bufferSize bytes = .ok i rest := by
  simp only [decodeAt, h, hi, if_true]

/-- What a walk yields that ends with this outcome behind these subframes: a malformed subframe takes them along. -/
def walkResult (out : ScanOutcome) (l : List Instr) : ScanOutcome × List Instr :=
  (out, if out = .malformed then [] else l)

/-- The walk goes over one subframe of this end's class and adds it to what it yields behind it. -/
theorem walk_of_decode {role : Role} {bufferSize fuel : Nat} {bytes rest : List Byte} {i : Instr} {l : List Instr}
    {out : ScanOutcome} (h : decode bufferSize bytes = .ok i rest) (hi : role.takes i = true)
    (hw : walk role bufferSize fuel rest = walkResult out l) :
    walk role bufferSize (fuel + 1) bytes = walkResult out (i :: l) := by
  cases bytes with
  | nil => cases h
  | cons b bs => cases out <;> simp [walk, decodeAt_of_takes h hi, hw, walkResult]

/-- The walk goes over any number of subframes of this end's class and ends as it does on the bytes behind them. -/
theorem walk_of_decodesTo {role : Role} {bufferSize : Nat} {tail : List Byte} {out : ScanOutcome}
    (htail : ∀ fuel, tail.length ≤ fuel → walk role bufferSize fuel tail = walkResult out []) (l : List Instr) :
    ∀ fuel bytes, bytes.length ≤ fuel → (∀ i ∈ l, role.takes i = true) → decodesTo bufferSize bytes l tail →
      walk role bufferSize fuel bytes = walkResult out l := by
  induction l with
  | nil =>
    rintro fuel bytes hfuel - rfl
    exact htail fuel hfuel
  | cons i l ih =>
    rintro fuel bytes hfuel htakes ⟨mid, hd, hrest⟩
    obtain ⟨hi, hl⟩ := List.forall_mem_cons.1 htakes
    have hshort := decode_ok_length hd
    obtain ⟨fuel, rfl⟩ := Nat.exists_eq_add_one_of_ne_zero (show fuel ≠ 0 by omega)
    exact walk_of_decode hd hi (ih fuel mid (by omega) hl hrest)

theorem walk_nil (role : Role) (bufferSize fuel : Nat) : walk role bufferSize fuel [] = walkResult .ok [] := by
  cases fuel <;> rfl

theorem walk_of_unknown {role : Role} {bufferSize fuel : Nat} {bytes : List Byte} {tag : U32}
    (h : decode bufferSize bytes = .unknown tag) (hfuel : bytes.length ≤ fuel) :
    walk role bufferSize fuel bytes = walkResult .unknown [] := by
  match bytes, fuel with
  | [], _ => cases h
  | b :: bs, 0 => simp at hfuel
  | b :: bs, fuel + 1 => simp [walk, decodeAt, h, walkResult]

theorem walk_of_malformed {role : Role} {bufferSize fuel : Nat} {bytes : List Byte} {why : Malformed}
    (hne : bytes ≠ []) (h : decodeAt role bufferSize bytes = .malformed why) (hfuel : bytes.length ≤ fuel) :
    walk role bufferSize fuel bytes = walkResult .malformed [] := by
  match bytes, fuel with
  | [], _ => exact absurd rfl hne
  | b :: bs, 0 => simp at hfuel
  | b :: bs, fuel + 1 => simp [walk, h, walkResult]

/-! The reply that a client takes. -/

theorem takeReply_of_malformed {req : CliReq} {s : State} {l : List Instr}
    (hw : walkPayload .client s.cfg.bufferSize s.rxPay = walkResult .malformed l) :
    takeReply req s = .next (s.discardFrame.takeError .malformedSubframe) := by
  simp [takeReply, hw, walkResult]

theorem takeReply_of_ok {req : CliReq} {s : State} {l : List Instr}
    (hw : walkPayload .client s.cfg.bufferSize s.rxPay = walkResult .ok l) :
    takeReply req s = andThen (execAll l s.discardFrame) (conclude req) := by
  simp [takeReply, hw, walkResult]

theorem takeReply_of_unknown {req : CliReq} {s : State} {l : List Instr}
    (hw : walkPayload .client s.cfg.bufferSize s.rxPay = walkResult .unknown l) :
    takeReply req s = andThen (execAll l (s.discardFrame.takeError .unknownSubframe)) (conclude req) := by
  simp [takeReply, hw, walkResult]

theorem andThen_execAll (l : List Instr) (s : State) (f : State → State) :
    ∃ t, execAll l s = .next t ∧ andThen (execAll l s) f = .next (f t) := by
  obtain ⟨t, ht⟩ := execAll_total l s
  exact ⟨t, ht, by rw [ht]; rfl⟩

/-- The step on the last checksum byte of a client's frame is the check of the completed frame. -/
theorem step_of_crc1_client {s : State} {b : Byte} {mark : Option SrvState} {rest : List Offer}
    (hr : s.cfg.role = .client) (hp : s.rxPhase = .crc1) (hi : s.inputs = ⟨.rxByte b, mark⟩ :: rest) :
    step s = clientCheck (rxCrcHigh b { s with inputs := rest }) := by
  rw [step_takes_head hi ((receiveOpen_iff s).2 (.inl hr)) (.inr (.inl hr))]
  simp only [handle, receiveByte, hr, hp, rxTake]

/-- A checked frame from the node asked is taken as the reply. -/
theorem clientCheck_eq_takeReply {s : State} {req : CliReq} (hs : s.cliState = .await) (hq : s.cliReq = some req)
    (hc : checksumOk s = true) (hdst : s.rxDst = s.nodeId) (hsrc : idByte (sourceId s.rxSrc) = req.dest) :
    clientCheck s = takeReply req s := by
  simp [clientCheck, hs, hq, hc, notFromNode, hdst, hsrc]

/-- The checksum check of a completed frame compares with the bytes before its checksum field. -/
theorem checksumOk_append_iff {s : State} {bs : List Byte} {b : Byte} (hb : s.rxBytes = bs ++ [b]) :
    checksumOk s = true ↔ frameCrc s.cfg.crc (bs.take (bs.length - 1)) = s.rxCrc := by
  have hlen : (bs ++ [b]).length - 2 = bs.length - 1 := by simp
  rw [checksumOk_iff, hb, hlen, List.take_append_of_le_length (Nat.sub_le ..)]

/-- Settles O27: the step is `takeReply` on the completed frame, and each clause is one outcome of the walk. -/
theorem stepRunsRepliedSubframe : Obligations.StepRunsRepliedSubframe := by
  intro s req b mark rest hr hs hq hp hi hcrc hdst hsrc u
  obtain ⟨v, hstep, hclear, hcfg, hpay⟩ : ∃ v, step s = takeReply req v ∧ v.discardFrame = u ∧
      v.cfg = s.cfg ∧ v.rxPay = s.rxPay := by
    refine ⟨rxCrcHigh b { s with inputs := rest }, ?_, ?_, rfl, rfl⟩
    · rw [step_of_crc1_client hr hp hi]
      exact clientCheck_eq_takeReply hs hq ((checksumOk_append_iff rfl).2 hcrc) hdst hsrc
    · simp only [State.discardFrame, rxCrcHigh, State.serverGoes, hr, u]
  rw [hstep]
  have hwalk : ∀ {l tail out}, (∀ i ∈ l, i.isRequest = false) → decodesTo s.cfg.bufferSize s.rxPay l tail →
      (∀ fuel, tail.length ≤ fuel → walk .client s.cfg.bufferSize fuel tail = walkResult out []) →
      walkPayload .client v.cfg.bufferSize v.rxPay = walkResult out l := by
    intro l tail out hl hd htail
    rw [hcfg, hpay]
    exact walk_of_decodesTo htail _ _ _ le_rfl (fun i h => by simp [Role.takes, hl i h]) hd
  have hok : ∀ l, (∀ i ∈ l, i.isRequest = false) → decodesTo s.cfg.bufferSize s.rxPay l [] →
      ∃ t, execAll l u = .next t ∧ takeReply req v = .next (conclude req t) := by
    intro l hl hd
    rw [takeReply_of_ok (hwalk hl hd fun _ _ => walk_nil ..), hclear]
    exact andThen_execAll l u (conclude req)
  refine ⟨fun i hrep hd => ?_, fun l tail hl hd => ⟨?_, fun tag htag => ?_, fun why hne hwhy => ?_⟩⟩
  · obtain ⟨w, hw, -⟩ := exec_cases i u
    obtain ⟨t, ht, hst⟩ := hok [i] (by simpa using hrep) ⟨[], hd, rfl⟩
    simp only [execAll, hw] at ht
    cases ht
    exact ⟨w, hw, hst⟩
  · rintro rfl
    exact hok l hl hd
  · rw [takeReply_of_unknown (hwalk hl hd fun _ => walk_of_unknown htag), hclear]
    exact andThen_execAll l (u.takeError .unknownSubframe) (conclude req)
  · rw [takeReply_of_malformed (hwalk hl hd fun _ => walk_of_malformed hne hwhy), hclear]
    exact congrArg Host.Outcome.next (State.takeError_malformed_client u hr)

end Sys2Proof.Machine
end

section
/-! PROOF. The checksum tells two byte lists apart that differ in one byte (41_frame_codec.md R110, R129): every round
of the loop is injective where the polynomial has a constant term. -/

namespace Sys2Proof.Machine

open Sys2Proof

/-- One round can be undone: the lowest bit of its result is the bit shifted out, the others are the bits below. -/
theorem crcBit_injective {poly : U16} (hpoly : poly.getLsbD 0 = true) : Function.Injective (crcBit poly) := by
  intro c d h
  have hlow : ∀ x : U16, (crcBit poly x).getLsbD 0 = x.msb := by
    intro x
    cases hx : x.msb <;> simp [crcBit, hx, hpoly]
  have hmsb : c.msb = d.msb := by rw [← hlow c, ← hlow d, h]
  have hshift : c <<< 1 = d <<< 1 := by
    cases hc : c.msb <;> simpa [crcBit, hc, hmsb ▸ hc] using h
  refine BitVec.eq_of_getElem_eq fun i hi => ?_
  rcases Nat.lt_or_ge i 15 with hlt | hge
  · simpa [Nat.succ_lt_succ hlt] using congrArg (·.getLsbD (i + 1)) hshift
  · obtain rfl : i = 15 := by omega
    simpa [BitVec.msb_eq_getLsbD_last] using hmsb

theorem repeat_injective {α : Type} {f : α → α} (hf : Function.Injective f) (n : Nat) :
    Function.Injective (Nat.repeat f n) := by
  induction n with
  | zero => exact Function.injective_id
  | succ n ih => exact hf.comp ih

section
variable {p : CrcParams} (hpoly : p.poly.getLsbD 0 = true)
include hpoly

/-- The state of the checksum behind a byte tells the states before it apart. -/
theorem crcByte_injective_state (b : Byte) : Function.Injective fun c => crcByte p c b := fun _ _ h =>
  (BitVec.xor_left_inj _).1 (repeat_injective (crcBit_injective hpoly) 8 h)

/-- The state of the checksum behind a byte tells the bytes apart. -/
theorem crcByte_injective_byte (c : U16) : Function.Injective (crcByte p c) := by
  intro a b h
  have hwide : ∀ {x y : Byte}, x.setWidth 16 <<< 8 = y.setWidth 16 <<< 8 → x = y := by
    intro x y hxy
    refine BitVec.eq_of_getLsbD_eq fun i hi => ?_
    simpa [show i + 8 < 16 by omega, show i < 16 by omega] using congrArg (·.getLsbD (i + 8)) hxy
  have hbyte := hwide ((BitVec.xor_right_inj _).1 (repeat_injective (crcBit_injective hpoly) 8 h))
  split at hbyte
  · rw [← BitVec.reverse_reverse_eq (x := a), hbyte, BitVec.reverse_reverse_eq]
  · exact hbyte

theorem foldl_crcByte_injective (data : List Byte) : Function.Injective fun c => data.foldl (crcByte p) c := by
  induction data with
  | nil => exact Function.injective_id
  | cons b data ih => exact ih.comp (crcByte_injective_state hpoly b)

/-- The checksum of a list changes with any one byte of it. -/
theorem crc16_set_ne {data : List Byte} {j : Nat} {b : Byte} (hj : j < data.length) (hb : data[j] ≠ b) :
    crc16 p (data.set j b) ≠ crc16 p data := by
  have hsplit : data = data.take j ++ data[j] :: data.drop (j + 1) := by
    rw [← List.drop_eq_getElem_cons hj, List.take_append_drop]
  have hfold : (data.set j b).foldl (crcByte p) p.init ≠ data.foldl (crcByte p) p.init := by
    rw [List.set_eq_take_append_cons_drop, if_pos hj]
    conv_rhs => rw [hsplit]
    rw [List.foldl_append, List.foldl_append, List.foldl_cons, List.foldl_cons]
    exact fun h => hb (crcByte_injective_byte hpoly _ (foldl_crcByte_injective hpoly _ h)).symm
  intro h
  have hout := (BitVec.xor_left_inj _).1 h
  split at hout
  · exact hfold (by rw [← BitVec.reverse_reverse_eq (x := (data.set j b).foldl _ _), hout, BitVec.reverse_reverse_eq])
  · exact hfold hout

theorem frameCrc_set_ne {front : List Byte} {j : Nat} {b : Byte} (hj : j < front.length) (hb : front[j] ≠ b) :
    frameCrc p (front.set j b) ≠ frameCrc p front := by
  have h := crc16_set_ne hpoly (data := front ++ [0#8, 0#8]) (b := b) (hj.trans_le (by simp))
    (by rwa [List.getElem_append_left hj])
  rwa [List.set_append_left _ _ hj] at h

end

/-- The two bytes of a checksum determine it. -/
theorem crcBytes_injective : Function.Injective crcBytes := by
  intro c d h
  obtain ⟨hlow, hhigh⟩ : c.setWidth 8 = d.setWidth 8 ∧ (c >>> 8).setWidth 8 = (d >>> 8).setWidth 8 := by
    simpa [crcBytes] using h
  exact BitVec.eq_of_toNat_eq (by rw [← crcBytes_toNat c, ← crcBytes_toNat d, hlow, hhigh])

end Sys2Proof.Machine
end

section
/-! PROOF. The functional frame decoder (41_frame_codec.md R128): what it says of a list cut into the fields of a frame,
of an encoded frame, and of one with a damaged byte (R113, R129). -/

namespace Sys2Proof.Machine

open Sys2Proof

/-- A frame up to the last payload byte, whatever the bytes of its length field (30_encoding.md R72). -/
def frameFront (src dst : Byte) (lenBytes payload : List Byte) : List Byte :=
  0x54#8 :: 0xAB#8 :: src :: dst :: (lenBytes ++ payload)

theorem frameHead_eq_frameFront (src : BitVec 7) (rr : Bool) (dst : Byte) (payload : List Byte) :
    frameHead src rr dst payload =
      frameFront (sourceByte src rr) dst (varEncode (BitVec.ofNat 32 payload.length)) payload := rfl

theorem frameFront_length (src dst : Byte) (lenBytes payload : List Byte) :
    (frameFront src dst lenBytes payload).length = 4 + lenBytes.length + payload.length := by
  simp only [frameFront, List.length_cons, List.length_append]
  omega

theorem frameFront_append (src dst : Byte) (lenBytes payload more : List Byte) :
    frameFront src dst lenBytes payload ++ more = frameFront src dst lenBytes (payload ++ more) := by
  simp [frameFront]

/-- The bytes of one varuint. -/
def IsVaruint (bytes : List Byte) (v : U32) : Prop :=
  varDecode bytes = some (v, bytes.length)

theorem isVaruint_varEncode (v : U32) : IsVaruint (varEncode v) v := by
  have h := varDecode_varEncode_append v []
  rwa [List.append_nil] at h

/-- A varuint is read from its own bytes. -/
theorem IsVaruint.varDecode_append {bytes : List Byte} {v : U32} (h : IsVaruint bytes v) (rest : List Byte) :
    varDecode (bytes ++ rest) = some (v, bytes.length) := by
  obtain ⟨used, more, hused, hlen, hmore⟩ := varDecodeLoop_consumes 5 0 0 bytes h
  obtain rfl : bytes = used := by
    rw [hused, List.append_right_eq_self]
    exact List.length_eq_zero_iff.1 (by simpa [hused] using hlen)
  exact hmore rest

/-! The verdict, by how far the list goes. -/

/-- The length field is not complete, or is malformed. -/
theorem tryDecode_of_malformed (c : Config) (src dst : Byte) {lenBytes : List Byte} (h : varDecode lenBytes = none) :
    tryDecode c (frameFront src dst lenBytes []) =
      if lenBytes.length < 5 then .incomplete else .error .receiveOverrun := by
  simp only [frameFront, tryDecode, List.append_nil, h]

section
variable {c : Config} {lenBytes : List Byte} {len : U32} (hlen : IsVaruint lenBytes len)
include hlen

theorem tryDecode_of_tooLong (src dst : Byte) (after : List Byte) (hbig : c.bufferSize < len.toNat) :
    tryDecode c (frameFront src dst lenBytes after) = .error .receiveOverrun := by
  simp only [frameFront, tryDecode, hlen.varDecode_append, if_pos hbig]

theorem tryDecode_of_short (src dst : Byte) {after : List Byte} (hfit : len.toNat ≤ c.bufferSize)
    (hshort : after.length < len.toNat + 2) : tryDecode c (frameFront src dst lenBytes after) = .incomplete := by
  have hcut : (frameFront src dst lenBytes after).length < 6 + lenBytes.length + len.toNat := by
    rw [frameFront_length]
    omega
  rw [frameFront] at hcut
  simp only [frameFront, tryDecode, hlen.varDecode_append, if_neg (Nat.not_lt.2 hfit)]
  exact if_pos hcut

/-- The frame is complete: its checksum decides. -/
theorem tryDecode_of_fields (src dst : Byte) {payload sum : List Byte} (rest : List Byte)
    (hfit : len.toNat ≤ c.bufferSize) (hpay : payload.length = len.toNat) (hsum : sum.length = 2) :
    tryDecode c (frameFront src dst lenBytes payload ++ sum ++ rest) =
      if crcBytes (frameCrc c.crc (frameFront src dst lenBytes payload)) = sum then
        .frame (sourceId src) (responseRequested src) dst payload
      else .error .checksumMismatch := by
  have hfront : (frameFront src dst lenBytes payload).length = 4 + lenBytes.length + len.toNat := by
    rw [frameFront_length, hpay]
  have hwhole : ¬ (frameFront src dst lenBytes payload ++ sum ++ rest).length < 6 + lenBytes.length + len.toNat := by
    rw [List.length_append, List.length_append, hfront, hsum]
    omega
  have htake : (frameFront src dst lenBytes payload ++ sum ++ rest).take (4 + lenBytes.length + len.toNat) =
      frameFront src dst lenBytes payload := by rw [List.append_assoc, List.take_left' hfront]
  have hdrop : (frameFront src dst lenBytes payload ++ sum ++ rest).drop (4 + lenBytes.length + len.toNat) =
      sum ++ rest := by rw [List.append_assoc, List.drop_left' hfront]
  have hafter : ((lenBytes ++ (payload ++ (sum ++ rest))).drop lenBytes.length).take len.toNat = payload := by
    rw [List.drop_left, List.take_left' hpay]
  have hshape : frameFront src dst lenBytes payload ++ sum ++ rest =
      0x54#8 :: 0xAB#8 :: src :: dst :: (lenBytes ++ (payload ++ (sum ++ rest))) := by simp [frameFront]
  rw [hshape] at hwhole htake hdrop ⊢
  simp only [tryDecode, hlen.varDecode_append, if_neg (Nat.not_lt.2 hfit), if_neg hwhole, htake, hdrop,
    List.take_left' hsum, hafter]

end

/-! An encoded frame. -/

theorem encodeFrame_eq (p : CrcParams) (src : BitVec 7) (rr : Bool) (dst : Byte) (payload : List Byte) :
    encodeFrame p src rr dst payload =
      frameHead src rr dst payload ++ crcBytes (frameCrc p (frameHead src rr dst payload)) := rfl

/-- The length field of a payload that fits a buffer. -/
theorem payloadLength_toNat {c : Config} {payload : List Byte} (hbuf : c.bufferSize < 2 ^ 32)
    (hlen : payload.length ≤ c.bufferSize) : (BitVec.ofNat 32 payload.length).toNat = payload.length :=
  u32_toNat_ofNat (hlen.trans_lt hbuf)

/-- Settles O12: the encoder's checksum is the decoder's, and what follows is not looked at. -/
theorem decodeOfEncodedFrame : Obligations.DecodeOfEncodedFrame := by
  intro c src rr dst payload rest hbuf hlen
  have hN := payloadLength_toNat hbuf hlen
  rw [encodeFrame_eq, frameHead_eq_frameFront,
    tryDecode_of_fields (isVaruint_varEncode _) _ _ _ (hN.trans_le hlen) hN.symm rfl, if_pos rfl,
    sourceId_sourceByte, responseRequested_sourceByte]

/-- Changing the source, the destination or a payload byte leaves the shape of a frame and its length field. -/
theorem frameFront_set {src dst : Byte} {lenBytes payload : List Byte} {j : Nat} (b : Byte)
    (hj : j = 2 ∨ j = 3 ∨ 4 + lenBytes.length ≤ j) :
    ∃ src' dst' payload', payload'.length = payload.length ∧
      (frameFront src dst lenBytes payload).set j b = frameFront src' dst' lenBytes payload' := by
  rcases hj with rfl | rfl | hj
  · exact ⟨b, dst, payload, rfl, rfl⟩
  · exact ⟨src, b, payload, rfl, rfl⟩
  · obtain ⟨k, rfl⟩ := Nat.exists_eq_add_of_le hj
    refine ⟨src, dst, payload.set k b, List.length_set, ?_⟩
    have hk : 4 + lenBytes.length + k = lenBytes.length + k + 1 + 1 + 1 + 1 := by omega
    simp only [frameFront, hk, List.set_cons_succ, List.set_append_right _ _ (Nat.le_add_right ..),
      Nat.add_sub_cancel_left]

/-- Settles O13: the change is in front of the checksum field, where it changes the checksum, or in the field. -/
theorem damagedByteFailsChecksum : Obligations.DamagedByteFailsChecksum := by
  intro c src rr dst payload j b hbuf hlen hpoly hj hin hb
  have hN := payloadLength_toNat hbuf hlen
  have hverdict : ∀ {src' dst' payload' sum}, payload'.length = payload.length → sum.length = 2 →
      crcBytes (frameCrc c.crc
        (frameFront src' dst' (varEncode (BitVec.ofNat 32 payload.length)) payload')) ≠ sum →
      tryDecode c (frameFront src' dst' (varEncode (BitVec.ofNat 32 payload.length)) payload' ++ sum) =
        .error .checksumMismatch := by
    intro src' dst' payload' sum hpay hsum hne
    have h := tryDecode_of_fields (isVaruint_varEncode _) src' dst' [] (hN.trans_le hlen) (hpay.trans hN.symm) hsum
    rwa [List.append_nil, if_neg hne] at h
  rw [encodeFrame_eq, frameHead_eq_frameFront] at hin hb ⊢
  set front := frameFront (sourceByte src rr) dst (varEncode (BitVec.ofNat 32 payload.length)) payload with hfront
  rcases Nat.lt_or_ge j front.length with hlt | hge
  · rw [List.getElem?_append_left hlt, List.getElem?_eq_getElem hlt] at hb
    have hcrc := frameCrc_set_ne hpoly hlt fun h => hb (congrArg some h)
    rw [List.set_append_left _ _ hlt]
    obtain ⟨src', dst', payload', hpay, hset⟩ := frameFront_set b hj
    rw [hfront, hset] at hcrc ⊢
    exact hverdict hpay rfl (crcBytes_injective.ne hcrc)
  · rw [List.set_append_right _ _ hge]
    rw [List.getElem?_append_right hge] at hb
    refine hverdict rfl (by simp [crcBytes]) fun h => hb ?_
    rw [h, List.getElem?_set_self]
    rw [List.length_append] at hin
    omega

end Sys2Proof.Machine
end

section
/-! PROOF. The receiver within a frame (41_frame_codec.md R118 to R122): what it holds in each phase, and that each byte
brings it to the verdict of the frame decoder on the bytes taken so far (R128). -/

namespace Sys2Proof.Machine

open Sys2Proof

/-! What the receiver leaves alone. -/

/-- The state without the receiver's registers, `srv_state` and the offered events. -/
def State.outside (s : State) : State :=
  { s with rxPhase := .h0, rxBytes := [], rxSrc := 0#8, rxDst := 0#8, rxLen := 0#32, rxLenN := 0, rxPay := [],
           rxCrc := 0#16, srvState := .idle, inputs := [] }

/-- States that agree outside the receiver agree in each register there. -/
theorem State.outside_fields {s t : State} (h : t.outside = s.outside) :
    t.cfg = s.cfg ∧ t.nodeId = s.nodeId ∧ t.stats = s.stats ∧ t.slots = s.slots ∧ t.outputs = s.outputs ∧
      t.cliState = s.cliState ∧ t.cliReq = s.cliReq ∧ t.cliResult = s.cliResult :=
  have field {α : Type} (f : State → α) : f t.outside = f s.outside := congrArg f h
  ⟨field State.cfg, field State.nodeId, field State.stats, field State.slots, field State.outputs,
    field State.cliState, field State.cliReq, field State.cliResult⟩

/-! The candidate frame. -/

/-- The length field is complete and within the buffer (41_frame_codec.md R120). -/
def State.HasLength (s : State) (lenBytes : List Byte) : Prop :=
  IsVaruint lenBytes s.rxLen ∧ s.rxLen.toNat ≤ s.cfg.bufferSize

/-- The receiver has these bytes of a length field, none of which ends it (41_frame_codec.md R119). -/
structure State.InLength (s : State) (lenBytes : List Byte) : Prop where
  phase : s.rxPhase = .len
  bytes : s.rxBytes = frameFront s.rxSrc s.rxDst lenBytes []
  msb : ∀ b ∈ lenBytes, b.msb = true
  few : lenBytes.length < 5
  count : s.rxLenN = lenBytes.length
  value : s.rxLen = BitVec.ofNat 32 (chunkSum lenBytes)

/-- The receiver is within a frame, behind its header: what it holds in each phase (10_state.md R27, R28). -/
inductive State.InFrame (s : State) : Prop where
  | source (hp : s.rxPhase = .src) (hb : s.rxBytes = [0x54#8, 0xAB#8])
  | destination (hp : s.rxPhase = .dst) (hb : s.rxBytes = [0x54#8, 0xAB#8, s.rxSrc])
  | length (lenBytes : List Byte) (h : s.InLength lenBytes)
  | payload (lenBytes : List Byte) (hp : s.rxPhase = .pay) (hlen : s.HasLength lenBytes)
      (hb : s.rxBytes = frameFront s.rxSrc s.rxDst lenBytes s.rxPay) (hpay : s.rxPay.length < s.rxLen.toNat)
  | crcLow (lenBytes : List Byte) (hp : s.rxPhase = .crc0) (hlen : s.HasLength lenBytes)
      (hb : s.rxBytes = frameFront s.rxSrc s.rxDst lenBytes s.rxPay) (hpay : s.rxPay.length = s.rxLen.toNat)
  | crcHigh (lenBytes : List Byte) (hp : s.rxPhase = .crc1) (hlen : s.HasLength lenBytes)
      (hb : s.rxBytes = frameFront s.rxSrc s.rxDst lenBytes s.rxPay ++ [s.rxCrc.setWidth 8])
      (hpay : s.rxPay.length = s.rxLen.toNat)

theorem State.InFrame.setInputs {s : State} (h : s.InFrame) (inputs : List Offer) :
    State.InFrame { s with inputs := inputs } := by
  cases h with
  | source hp hb => exact .source hp hb
  | destination hp hb => exact .destination hp hb
  | length lenBytes h => exact .length lenBytes ⟨h.phase, h.bytes, h.msb, h.few, h.count, h.value⟩
  | payload lenBytes hp hlen hb hpay => exact .payload lenBytes hp hlen hb hpay
  | crcLow lenBytes hp hlen hb hpay => exact .crcLow lenBytes hp hlen hb hpay
  | crcHigh lenBytes hp hlen hb hpay => exact .crcHigh lenBytes hp hlen hb hpay

theorem State.InFrame.ne_h0 {s : State} (h : s.InFrame) : s.rxPhase ≠ .h0 := by
  cases h with
  | length _ h => simp [h.phase]
  | _ => simp [*]

/-- `t` holds these bytes of a frame, and is else as `s` was; a server collects them in `ACCUM`. -/
structure Holds (s : State) (bytes : List Byte) (t : State) : Prop where
  inFrame : t.InFrame
  rxBytes : t.rxBytes = bytes
  outside : t.outside = s.outside
  accum : s.cfg.role = .server → t.srvState = .accum

/-- The checksum of a complete frame, with its high byte arriving, is that of the bytes in front of it. -/
def sumMatches (s : State) (high : Byte) : Prop :=
  frameCrc s.cfg.crc (s.rxBytes.take (s.rxBytes.length - 1)) = setCrcHigh s.rxCrc high

/-- What a byte brings a receiver within a frame to: the next phase, an overrun (R119, R120), or a complete frame
(R122); and `TryDecode` says the same of the bytes taken. -/
inductive ByteCase (s : State) (b : Byte) (t : State) : Prop where
  | more (hv : tryDecode s.cfg (s.rxBytes ++ [b]) = .incomplete) (hp : s.rxPhase ≠ .crc1)
      (hi : t.inputs = s.inputs) (ht : (s.cfg.role = .server → s.srvState = .accum) → Holds s (s.rxBytes ++ [b]) t)
  | overrun (hv : tryDecode s.cfg (s.rxBytes ++ [b]) = .error .receiveOverrun) (hp : s.rxPhase ≠ .crc1)
      (ht : t = droppedFrame .receiveOverrun
        { s with rxLen := s.rxLen + BitVec.ofNat 32 (b.toNat % 128 * 2 ^ (7 * s.rxLenN)), rxLenN := s.rxLenN + 1 })
  | good (hp : s.rxPhase = .crc1) (hsum : sumMatches s b)
      (hv : tryDecode s.cfg (s.rxBytes ++ [b]) =
        .frame (sourceId s.rxSrc) (responseRequested s.rxSrc) s.rxDst s.rxPay)
  | bad (hp : s.rxPhase = .crc1) (hsum : ¬ sumMatches s b)
      (hv : tryDecode s.cfg (s.rxBytes ++ [b]) = .error .checksumMismatch)

/-! Source and destination (41_frame_codec.md R118). -/

theorem rxSource_case {s : State} (b : Byte) (hp : s.rxPhase = .src) (hb : s.rxBytes = [0x54#8, 0xAB#8]) :
    ByteCase s b (rxSource b s) :=
  .more (by rw [hb]; rfl) (by simp [hp]) rfl fun hacc => ⟨.destination rfl (by simp [rxSource, hb]), rfl, rfl, hacc⟩

theorem rxDestination_case {s : State} (b : Byte) (hp : s.rxPhase = .dst)
    (hb : s.rxBytes = [0x54#8, 0xAB#8, s.rxSrc]) : ByteCase s b (rxDestination b s) :=
  .more (by rw [hb]; rfl) (by simp [hp]) rfl fun hacc =>
    ⟨.length [] ⟨rfl, by simp [rxDestination, hb, frameFront], by simp, by simp, rfl, rfl⟩, rfl, rfl, hacc⟩

/-! The length field (41_frame_codec.md R119, R120). -/

theorem chunkSum_append (bytes : List Byte) (b : Byte) :
    chunkSum (bytes ++ [b]) = chunkSum bytes + b.toNat % 128 * 2 ^ (7 * bytes.length) := by
  induction bytes with
  | nil => simp
  | cons a bytes ih =>
    rw [List.cons_append, chunkSum_cons, chunkSum_cons, ih, List.length_cons]
    ring

/-- The registers after one byte of the length field. -/
def lengthByte (b : Byte) (s : State) : State :=
  { s with
    rxBytes := s.rxBytes ++ [b]
    rxLen := s.rxLen + BitVec.ofNat 32 (b.toNat % 128 * 2 ^ (7 * s.rxLenN))
    rxLenN := s.rxLenN + 1 }

theorem rxLength_eq (b : Byte) (s : State) :
    rxLength b s = if b.msb then
        if s.rxLenN + 1 = 5 then droppedFrame .receiveOverrun (lengthByte b s) else lengthByte b s
      else rxLengthEnd (lengthByte b s) := by
  have hlen : BitVec.ofNat 32 (s.rxLen.toNat + b.toNat % 128 * 2 ^ (7 * s.rxLenN)) =
      s.rxLen + BitVec.ofNat 32 (b.toNat % 128 * 2 ^ (7 * s.rxLenN)) := by
    rw [BitVec.ofNat_add, BitVec.ofNat_toNat, BitVec.setWidth_eq]
  unfold rxLength
  rw [hlen, ← State.count_discardFrame]
  rfl

theorem rxLengthEnd_eq (s : State) :
    rxLengthEnd s = if s.cfg.bufferSize < s.rxLen.toNat then droppedFrame .receiveOverrun s
      else { s with rxPay := [], rxPhase := if s.rxLen = 0#32 then .crc0 else .pay } := by
  unfold rxLengthEnd
  rw [← State.count_discardFrame]
  split
  · rfl
  · split <;> rfl

theorem State.InLength.ne_crc1 {s : State} {lenBytes : List Byte} (h : s.InLength lenBytes) : s.rxPhase ≠ .crc1 := by
  simp [h.phase]

/-- One more byte of the length field. -/
theorem State.InLength.append_bytes {s : State} {lenBytes : List Byte} (h : s.InLength lenBytes) (b : Byte) :
    s.rxBytes ++ [b] = frameFront s.rxSrc s.rxDst (lenBytes ++ [b]) [] := by
  simp [h.bytes, frameFront]

theorem State.InLength.append_value {s : State} {lenBytes : List Byte} (h : s.InLength lenBytes) (b : Byte) :
    (lengthByte b s).rxLen = BitVec.ofNat 32 (chunkSum (lenBytes ++ [b])) := by
  rw [chunkSum_append, BitVec.ofNat_add, ← h.value, ← h.count]
  rfl

/-- A byte that continues the length field: the fifth one is an overrun. -/
theorem rxLength_case_continued {s : State} {b : Byte} {lenBytes : List Byte} (h : s.InLength lenBytes)
    (hbit : b.msb = true) : ByteCase s b (rxLength b s) := by
  have hcount : (lenBytes ++ [b]).length = s.rxLenN + 1 := by rw [List.length_append, h.count]; rfl
  have hall : ∀ x ∈ lenBytes ++ [b], x.msb = true := by simpa [or_imp, forall_and, hbit] using h.msb
  have hnone : varDecode (lenBytes ++ [b]) = none :=
    (varDecode_eq_none_iff _).2 fun x hx => hall x (List.mem_of_mem_take hx)
  have hv := tryDecode_of_malformed s.cfg s.rxSrc s.rxDst hnone
  have hfew := h.few
  have hn := h.count
  rw [← h.append_bytes, hcount] at hv
  rw [rxLength_eq, if_pos hbit]
  by_cases h5 : s.rxLenN + 1 = 5
  · rw [if_pos h5]
    exact .overrun (by rw [hv, if_neg (by omega)]) h.ne_crc1 rfl
  · rw [if_neg h5]
    exact .more (by rw [hv, if_pos (by omega)]) h.ne_crc1 rfl fun hacc =>
      ⟨.length (lenBytes ++ [b]) ⟨h.phase, h.append_bytes b, hall, by omega, hcount.symm, h.append_value b⟩,
        rfl, rfl, hacc⟩

/-- A byte that ends the length field: a length above the buffer is an overrun. -/
theorem rxLength_case_last {s : State} {b : Byte} {lenBytes : List Byte} (h : s.InLength lenBytes)
    (hbit : b.msb = false) : ByteCase s b (rxLength b s) := by
  have hvar : IsVaruint (lenBytes ++ [b]) (lengthByte b s).rxLen := by
    rw [IsVaruint, h.append_value, List.length_append]
    exact varuintDecodesSum lenBytes b [] (Nat.le_of_lt_succ h.few) h.msb hbit
  rw [rxLength_eq, if_neg (by simp [hbit]), rxLengthEnd_eq]
  split
  · next hbig =>
    exact .overrun (by rw [h.append_bytes]; exact tryDecode_of_tooLong hvar _ _ _ hbig) h.ne_crc1 rfl
  · next hbig =>
    have hfit := Nat.le_of_not_lt hbig
    refine .more (by rw [h.append_bytes]; exact tryDecode_of_short hvar _ _ hfit (by simp)) h.ne_crc1 rfl fun hacc =>
      ⟨?_, rfl, rfl, hacc⟩
    by_cases h0 : (lengthByte b s).rxLen = 0#32
    · exact .crcLow (lenBytes ++ [b]) (if_pos h0) ⟨hvar, hfit⟩ (h.append_bytes b) (by simp [h0])
    · exact .payload (lenBytes ++ [b]) (if_neg h0) ⟨hvar, hfit⟩ (h.append_bytes b)
        (Nat.pos_of_ne_zero fun hz => h0 (BitVec.eq_of_toNat_eq hz))

/-! The payload and the checksum field (41_frame_codec.md R121, R122). -/

theorem rxPayload_case {s : State} (b : Byte) {lenBytes : List Byte} (hp : s.rxPhase = .pay)
    (hlen : s.HasLength lenBytes) (hb : s.rxBytes = frameFront s.rxSrc s.rxDst lenBytes s.rxPay)
    (hpay : s.rxPay.length < s.rxLen.toNat) : ByteCase s b (rxPayload b s) := by
  obtain ⟨hvar, hfit⟩ := hlen
  have hbytes : s.rxBytes ++ [b] = frameFront s.rxSrc s.rxDst lenBytes (s.rxPay ++ [b]) := by
    rw [hb, frameFront_append]
  have hcount : (s.rxPay ++ [b]).length = s.rxPay.length + 1 := List.length_append
  have hv : tryDecode s.cfg (s.rxBytes ++ [b]) = .incomplete := by
    rw [hbytes]
    exact tryDecode_of_short hvar _ _ hfit (by omega)
  have hp' : s.rxPhase ≠ .crc1 := by simp [hp]
  unfold rxPayload
  dsimp only
  split
  · next hall =>
    exact .more hv hp' rfl fun hacc => ⟨.crcLow lenBytes rfl ⟨hvar, hfit⟩ hbytes hall, rfl, rfl, hacc⟩
  · next hall =>
    exact .more hv hp' rfl fun hacc =>
      ⟨.payload lenBytes hp ⟨hvar, hfit⟩ hbytes (by dsimp only; omega), rfl, rfl, hacc⟩

@[simp] theorem setWidth_setCrcLow (c : U16) (b : Byte) : (setCrcLow c b).setWidth 8 = b :=
  BitVec.setWidth_append_eq_right

theorem rxCrcLow_case {s : State} (b : Byte) {lenBytes : List Byte} (hp : s.rxPhase = .crc0)
    (hlen : s.HasLength lenBytes) (hb : s.rxBytes = frameFront s.rxSrc s.rxDst lenBytes s.rxPay)
    (hpay : s.rxPay.length = s.rxLen.toNat) : ByteCase s b (rxCrcLow b s) := by
  obtain ⟨hvar, hfit⟩ := hlen
  have hbytes : s.rxBytes ++ [b] = frameFront s.rxSrc s.rxDst lenBytes (s.rxPay ++ [b]) := by
    rw [hb, frameFront_append]
  have hcount : (s.rxPay ++ [b]).length = s.rxPay.length + 1 := List.length_append
  exact .more (by rw [hbytes]; exact tryDecode_of_short hvar _ _ hfit (by omega)) (by simp [hp]) rfl fun hacc =>
    ⟨.crcHigh lenBytes rfl ⟨hvar, hfit⟩ (by simp [rxCrcLow, hb]) hpay, rfl, rfl, hacc⟩

/-- The two bytes of a checksum register whose high byte arrives. -/
theorem crcBytes_setCrcHigh (c : U16) (b : Byte) : crcBytes (setCrcHigh c b) = [c.setWidth 8, b] := by
  have hlow : (setCrcHigh c b).setWidth 8 = c.setWidth 8 := by
    rw [setCrcHigh, BitVec.setWidth_append_eq_right, BitVec.setWidth_eq_extractLsb' (by decide)]
  have hhigh : (setCrcHigh c b >>> 8).setWidth 8 = b := by
    refine BitVec.eq_of_getLsbD_eq fun i hi => ?_
    have hbit : (setCrcHigh c b).getLsbD (8 + i) = _ := BitVec.getLsbD_append
    simpa [hi] using hbit
  rw [crcBytes, hlow, hhigh]

theorem rxCrcHigh_case {s : State} (b : Byte) {lenBytes : List Byte} {t : State} (hp : s.rxPhase = .crc1)
    (hlen : s.HasLength lenBytes)
    (hb : s.rxBytes = frameFront s.rxSrc s.rxDst lenBytes s.rxPay ++ [s.rxCrc.setWidth 8])
    (hpay : s.rxPay.length = s.rxLen.toNat) : ByteCase s b t := by
  obtain ⟨hvar, hfit⟩ := hlen
  have hfront : s.rxBytes.take (s.rxBytes.length - 1) = frameFront s.rxSrc s.rxDst lenBytes s.rxPay := by
    rw [← List.dropLast_eq_take, hb, List.dropLast_concat]
  have hsum : sumMatches s b ↔
      crcBytes (frameCrc s.cfg.crc (frameFront s.rxSrc s.rxDst lenBytes s.rxPay)) = [s.rxCrc.setWidth 8, b] := by
    rw [sumMatches, hfront, ← crcBytes_setCrcHigh, crcBytes_injective.eq_iff]
  have hv := tryDecode_of_fields hvar s.rxSrc s.rxDst [] (sum := [s.rxCrc.setWidth 8, b]) hfit hpay rfl
  have hbytes : s.rxBytes ++ [b] =
      frameFront s.rxSrc s.rxDst lenBytes s.rxPay ++ [s.rxCrc.setWidth 8, b] ++ [] := by simp [hb]
  rw [← hbytes] at hv
  split at hv
  · next h => exact .good hp (hsum.2 h) hv
  · next h => exact .bad hp (mt hsum.1 h) hv

/-- Each byte of a frame, phase by phase. -/
theorem rxTake_case {s : State} (h : s.InFrame) (b : Byte) : ByteCase s b (rxTake b s) := by
  cases h with
  | source hp hb =>
    simp only [rxTake, hp]
    exact rxSource_case b hp hb
  | destination hp hb =>
    simp only [rxTake, hp]
    exact rxDestination_case b hp hb
  | length lenBytes h =>
    simp only [rxTake, h.phase]
    cases hbit : b.msb with
    | true => exact rxLength_case_continued h hbit
    | false => exact rxLength_case_last h hbit
  | payload lenBytes hp hlen hb hpay =>
    simp only [rxTake, hp]
    exact rxPayload_case b hp hlen hb hpay
  | crcLow lenBytes hp hlen hb hpay =>
    simp only [rxTake, hp]
    exact rxCrcLow_case b hp hlen hb hpay
  | crcHigh lenBytes hp hlen hb hpay => exact rxCrcHigh_case b hp hlen hb hpay

end Sys2Proof.Machine
end

section
/-! PROOF. Whole frames at the receiver, byte by byte: it comes to the verdict of the frame decoder (41_frame_codec.md
R116 to R122, R128), and what is sent to a server is accepted by it (R113, R123 to R125). -/

namespace Sys2Proof.Machine

open Sys2Proof

/-! Runs. -/

theorem run_succ {s t : State} (h : step s = .next t) (n : Nat) :
    Host.Core.run Sys2Proof.core (n + 1) s = Host.Core.run Sys2Proof.core n t := by
  have hs : Sys2Proof.core.step s = .next t := h
  simp only [Host.Core.run, hs]

theorem run_add {t : State} (n : Nat) : ∀ {m} {s : State}, Host.Core.run Sys2Proof.core m s = .next t →
    Host.Core.run Sys2Proof.core (m + n) s = Host.Core.run Sys2Proof.core n t := by
  intro m
  induction m with
  | zero =>
    intro s h
    cases h
    rw [Nat.zero_add]
  | succ m ih =>
    intro s h
    rw [Nat.add_right_comm]
    simp only [Host.Core.run] at h ⊢
    cases hs : Sys2Proof.core.step s with
    | next u =>
      rw [hs] at h
      exact ih h
    | fault r =>
      rw [hs] at h
      cases h
    | refused r =>
      rw [hs] at h
      cases h

/-! One byte taken from the offers. -/

theorem offerBytes_append (bytes more : List Byte) (rest : List Offer) :
    offerBytes (bytes ++ more) ++ rest = offerBytes bytes ++ (offerBytes more ++ rest) := by
  simp [offerBytes]

/-- An open receiver takes the byte that stands first. -/
theorem step_of_rxByte {s : State} {b : Byte} {bytes : List Byte} {rest : List Offer} (ho : receiveOpen s = true)
    (hi : s.inputs = offerBytes (b :: bytes) ++ rest) :
    step s = handle (.rxByte b) { s with inputs := offerBytes bytes ++ rest } := by
  obtain h | h | h := (receiveOpen_iff s).1 ho
  · exact step_takes_head hi ho (.inr (.inl h))
  · exact step_takes_head hi ho (.inr (.inr (.inl h)))
  · exact step_takes_head hi ho (.inr (.inr (.inr (.inl h))))

/-- But for the last byte of a client's frame, taking a byte is the receiver's own step. -/
theorem handle_rxByte {s : State} (b : Byte) (h : s.cfg.role = .server ∨ s.rxPhase ≠ .crc1) :
    handle (.rxByte b) s = .next (rxTake b s) := by
  simp only [handle, receiveByte]
  split
  · next hr hp => simp [hr, hp] at h
  · rfl

/-! Outside a frame (41_frame_codec.md R116, R117). -/

theorem handle_of_h0 {s : State} (b : Byte) (hp : s.rxPhase = .h0) :
    handle (.rxByte b) s = .next (if b = 0x54#8 then { s with rxBytes := [0x54#8], rxPhase := .h1 } else s) := by
  rw [handle_rxByte b (.inr (by simp [hp]))]
  simp only [rxTake, hp, rxHunt]

theorem handle_of_h1 {s : State} (b : Byte) (hp : s.rxPhase = .h1) :
    handle (.rxByte b) s = .next (if b = 0xAB#8 then
        { s with rxBytes := [0x54#8, 0xAB#8], rxPhase := .src
                 srvState := if s.cfg.role = .server then .accum else s.srvState }
      else if b = 0x54#8 then { s with rxBytes := [0x54#8] }
      else { s with rxBytes := [], rxPhase := .h0 }) := by
  rw [handle_rxByte b (.inr (by simp [hp]))]
  cases hr : s.cfg.role <;> simp [rxTake, hp, rxHeader, State.serverGoes, hr]

/-- Each byte in `H0` and `H1`, in both roles. -/
theorem hunting_cases (s : State) (b : Byte) :
    (s.rxPhase = .h0 → b = 0x54#8 → handle (.rxByte b) s = .next { s with rxBytes := [0x54#8], rxPhase := .h1 }) ∧
    (s.rxPhase = .h0 → b ≠ 0x54#8 → handle (.rxByte b) s = .next s) ∧
    (s.rxPhase = .h1 → b = 0xAB#8 → handle (.rxByte b) s = .next
      { s with rxBytes := [0x54#8, 0xAB#8], rxPhase := .src
               srvState := if s.cfg.role = .server then .accum else s.srvState }) ∧
    (s.rxPhase = .h1 → b = 0x54#8 → handle (.rxByte b) s = .next { s with rxBytes := [0x54#8] }) ∧
    (s.rxPhase = .h1 → b ≠ 0xAB#8 → b ≠ 0x54#8 →
      handle (.rxByte b) s = .next { s with rxBytes := [], rxPhase := .h0 }) := by
  refine ⟨fun hp hb => ?_, fun hp hb => ?_, fun hp hb => ?_, ?_, fun hp hab hb => ?_⟩
  · rw [handle_of_h0 b hp, if_pos hb]
  · rw [handle_of_h0 b hp, if_neg hb]
  · rw [handle_of_h1 b hp, if_pos hb]
  · rintro hp rfl
    exact handle_of_h1 _ hp
  · rw [handle_of_h1 b hp, if_neg hab, if_neg hb]

/-! Within a frame. -/

theorem Holds.cfg {s t : State} {bytes : List Byte} (h : Holds s bytes t) : t.cfg = s.cfg :=
  (State.outside_fields h.outside).1

/-- A receiver within a frame takes bytes. -/
theorem Holds.receives {s t : State} {bytes : List Byte} (h : Holds s bytes t) : receiveOpen t = true := by
  rw [receiveOpen_iff, h.cfg]
  cases hr : s.cfg.role with
  | client => exact .inl rfl
  | server => exact .inr (.inr (h.accum hr))

theorem Holds.setInputs {s t : State} {bytes : List Byte} (h : Holds s bytes t) (inputs : List Offer) :
    Holds s bytes { t with inputs := inputs } :=
  ⟨h.inFrame.setInputs inputs, h.rxBytes, h.outside, h.accum⟩

/-- The next byte is taken from the offers: the receiver is still as it was when the byte arrives. -/
theorem Holds.next {s t : State} {bytes more : List Byte} {b : Byte} {rest : List Offer} (h : Holds s bytes t)
    (hi : t.inputs = offerBytes (b :: more) ++ rest) :
    ∃ u : State, u = { t with inputs := offerBytes more ++ rest } ∧ Holds s bytes u ∧
      step t = handle (.rxByte b) u :=
  ⟨_, rfl, h.setInputs _, step_of_rxByte h.receives hi⟩

/-- A byte that the receiver goes on from is collected. -/
theorem Holds.snoc {s t u : State} {bytes : List Byte} {b : Byte} (h : Holds s bytes t)
    (ht : (t.cfg.role = .server → t.srvState = .accum) → Holds t (t.rxBytes ++ [b]) u) : Holds s (bytes ++ [b]) u := by
  have hnext := ht (h.cfg ▸ h.accum)
  exact ⟨hnext.inFrame, hnext.rxBytes.trans (congrArg (· ++ [b]) h.rxBytes), hnext.outside.trans h.outside,
    fun hr => hnext.accum (h.cfg ▸ hr)⟩

/-- The verdict on the bytes held and the next one. -/
theorem Holds.verdict {s t : State} {bytes : List Byte} (h : Holds s bytes t) (b : Byte) :
    tryDecode t.cfg (t.rxBytes ++ [b]) = tryDecode s.cfg (bytes ++ [b]) := by
  rw [h.cfg, h.rxBytes]

/-- A byte that leaves the list incomplete is collected. -/
theorem Holds.collect {s t : State} {bytes more : List Byte} {b : Byte} {rest : List Offer} (h : Holds s bytes t)
    (hi : t.inputs = offerBytes (b :: more) ++ rest) (hv : tryDecode s.cfg (bytes ++ [b]) = .incomplete) :
    ∃ v, step t = .next v ∧ v.inputs = offerBytes more ++ rest ∧ Holds s (bytes ++ [b]) v := by
  obtain ⟨u, hu, hold, hstep⟩ := h.next hi
  rw [← hold.verdict] at hv
  cases rxTake_case hold.inFrame b with
  | more _ hp hi' ht =>
    rw [handle_rxByte b (.inr hp)] at hstep
    exact ⟨_, hstep, hi'.trans (congrArg State.inputs hu), hold.snoc ht⟩
  | overrun hv' _ _ => cases hv.symm.trans hv'
  | good _ _ hv' => cases hv.symm.trans hv'
  | bad _ _ hv' => cases hv.symm.trans hv'

/-- While every list of the bytes taken is incomplete, the receiver collects them. -/
theorem Holds.run {s : State} {rest : List Offer} (more : List Byte) : ∀ {t bytes}, Holds s bytes t →
    t.inputs = offerBytes more ++ rest → (∀ k ≤ more.length, tryDecode s.cfg (bytes ++ more.take k) = .incomplete) →
    ∃ u : State, Host.Core.run Sys2Proof.core more.length t = .next u ∧ u.inputs = rest ∧
      Holds s (bytes ++ more) u := by
  induction more with
  | nil => exact fun {t bytes} h hi _ => ⟨t, rfl, hi, by rwa [List.append_nil]⟩
  | cons b more ih =>
    intro t bytes h hi hinc
    obtain ⟨v, hstep, hvi, hv⟩ := h.collect hi (hinc 1 (by simp))
    have hinc' : ∀ k ≤ more.length, tryDecode s.cfg (bytes ++ [b] ++ more.take k) = .incomplete := fun k hk => by
      simpa using hinc (k + 1) (Nat.succ_le_succ hk)
    obtain ⟨u, hrun, hui, hu⟩ := ih hv hvi hinc'
    exact ⟨u, (run_succ hstep _).trans hrun, hui, by simpa using hu⟩

/-! From `H0` on. -/

/-- The first header byte. -/
theorem step_of_header0 {s : State} {more : List Byte} {rest : List Offer} (ho : receiveOpen s = true)
    (hp : s.rxPhase = .h0) (hi : s.inputs = offerBytes (0x54#8 :: more) ++ rest) :
    step s = .next { s with inputs := offerBytes more ++ rest, rxBytes := [0x54#8], rxPhase := .h1 } :=
  (step_of_rxByte ho hi).trans (handle_of_h0 _ hp)

/-- The second header byte begins a frame. -/
theorem step_of_header1 {s : State} {more : List Byte} {rest : List Offer} (ho : receiveOpen s = true)
    (hp : s.rxPhase = .h1) (hi : s.inputs = offerBytes (0xAB#8 :: more) ++ rest) :
    ∃ t, step s = .next t ∧ t.inputs = offerBytes more ++ rest ∧ Holds s [0x54#8, 0xAB#8] t :=
  ⟨_, (step_of_rxByte ho hi).trans (handle_of_h1 _ hp), rfl, .source rfl rfl, rfl, rfl, fun hr => if_pos hr⟩

/-- The header and then the bytes behind it, while every list of them is incomplete. -/
theorem run_collect {s : State} {more : List Byte} {rest : List Offer} (ho : receiveOpen s = true)
    (hp : s.rxPhase = .h0) (hi : s.inputs = offerBytes (0x54#8 :: 0xAB#8 :: more) ++ rest)
    (hinc : ∀ k ≤ more.length, tryDecode s.cfg (0x54#8 :: 0xAB#8 :: more.take k) = .incomplete) :
    ∃ t : State, Host.Core.run Sys2Proof.core (more.length + 2) s = .next t ∧ t.inputs = rest ∧
      Holds s (0x54#8 :: 0xAB#8 :: more) t := by
  have hstep := step_of_header0 ho hp hi
  obtain ⟨u, hustep, hui, hu⟩ := step_of_header1 (s :=
    { s with inputs := offerBytes (0xAB#8 :: more) ++ rest, rxBytes := [0x54#8], rxPhase := .h1 }) ho rfl rfl
  obtain ⟨t, hrun, hti, ht⟩ := Holds.run (s := s) more ⟨hu.inFrame, hu.rxBytes, hu.outside, hu.accum⟩ hui hinc
  exact ⟨t, (run_succ hstep _).trans ((run_succ hustep _).trans hrun), hti, ht⟩

/-- A list that begins with the header. -/
theorem eq_header_append {bytes : List Byte} (h : bytes.take 2 = [0x54#8, 0xAB#8]) :
    bytes = 0x54#8 :: 0xAB#8 :: bytes.drop 2 := by
  conv_lhs => rw [← List.take_append_drop 2 bytes, h]
  rfl

/-! A server. -/

/-- What a whole list of bytes brings a server to. -/
inductive ServerCase (s : State) (bytes : List Byte) (t : State) : Prop where
  | incomplete (hv : tryDecode s.cfg bytes = .incomplete) (ht : Holds s bytes t)
  | overrun (hv : tryDecode s.cfg bytes = .error .receiveOverrun) (hs : t.srvState = .idle) (hp : t.rxPhase = .h0)
      (hb : t.rxBytes = []) (hstats : t.stats = s.stats.bump .receiveOverrun)
  | good (hs : t.srvState = .validate) (hout : t.outside = s.outside) (hsum : checksumOk t = true)
      (hv : tryDecode s.cfg bytes = .frame (sourceId t.rxSrc) (responseRequested t.rxSrc) t.rxDst t.rxPay)
  | bad (hs : t.srvState = .validate) (hout : t.outside = s.outside) (hsum : checksumOk t = false)
      (hv : tryDecode s.cfg bytes = .error .checksumMismatch)

/-- The last checksum byte brings a server to `VALIDATE`. -/
theorem rxTake_of_crc1_server {s : State} (b : Byte) (hr : s.cfg.role = .server) (hp : s.rxPhase = .crc1) :
    rxTake b s = { s with rxBytes := s.rxBytes ++ [b], rxCrc := setCrcHigh s.rxCrc b, srvState := .validate } := by
  simp only [rxTake, hp, rxCrcHigh, State.serverGoes, hr]

/-- The last byte of a list at a server. -/
theorem Holds.server_last {s t : State} {bytes : List Byte} {b : Byte} {rest : List Offer} (h : Holds s bytes t)
    (hr : s.cfg.role = .server) (hi : t.inputs = offerBytes [b] ++ rest) :
    ∃ v, step t = .next v ∧ v.inputs = rest ∧ ServerCase s (bytes ++ [b]) v := by
  obtain ⟨u, hu, hold, hstep⟩ := h.next hi
  have hru : u.cfg.role = .server := hold.cfg ▸ hr
  have hui : u.inputs = rest := congrArg State.inputs hu
  have hout := hold.outside
  rw [handle_rxByte b (.inl hru)] at hstep
  refine ⟨_, hstep, ?_⟩
  cases rxTake_case hold.inFrame b with
  | more hv _ hi' ht =>
    rw [hold.verdict] at hv
    exact ⟨hi'.trans hui, .incomplete hv (hold.snoc ht)⟩
  | overrun hv _ ht =>
    rw [hold.verdict] at hv
    obtain ⟨-, -, hstats, -⟩ := State.outside_fields hout
    rw [ht]
    exact ⟨hui, .overrun hv (if_pos hru) rfl rfl (congrArg (Stats.bump · .receiveOverrun) hstats)⟩
  | good hp hsum hv =>
    rw [hold.verdict] at hv
    rw [rxTake_of_crc1_server b hru hp]
    exact ⟨hui, .good rfl hout ((checksumOk_append_iff rfl).2 hsum) hv⟩
  | bad hp hsum hv =>
    rw [hold.verdict] at hv
    rw [rxTake_of_crc1_server b hru hp]
    exact ⟨hui, .bad rfl hout (Bool.eq_false_iff.2 (mt (checksumOk_append_iff rfl).1 hsum)) hv⟩

/-- A list of bytes that begins with the header, each shorter list incomplete, at an idle server. -/
theorem run_server {s : State} {bytes : List Byte} {rest : List Offer} (hr : s.cfg.role = .server)
    (hs : s.srvState = .idle) (hp : s.rxPhase = .h0) (hi : s.inputs = offerBytes bytes ++ rest)
    (hhead : bytes.take 2 = [0x54#8, 0xAB#8])
    (hinc : ∀ k, k < bytes.length → tryDecode s.cfg (bytes.take k) = .incomplete) :
    ∃ t : State, Host.Core.run Sys2Proof.core bytes.length s = .next t ∧ t.inputs = rest ∧ ServerCase s bytes t := by
  have ho : receiveOpen s = true := (receiveOpen_iff s).2 (.inr (.inl hs))
  obtain ⟨more, rfl⟩ : ∃ more, bytes = 0x54#8 :: 0xAB#8 :: more := ⟨_, eq_header_append hhead⟩
  rcases List.eq_nil_or_concat more with rfl | ⟨init, last, rfl⟩
  · obtain ⟨t, hrun, hti, ht⟩ := run_collect (more := []) ho hp hi fun k _ => by rw [List.take_nil]; rfl
    exact ⟨t, hrun, hti, .incomplete rfl ht⟩
  · rw [List.concat_eq_append] at hi hinc ⊢
    have hi' : s.inputs = offerBytes (0x54#8 :: 0xAB#8 :: init) ++ (offerBytes [last] ++ rest) := by
      rw [hi, ← offerBytes_append]
      rfl
    obtain ⟨t, hrun, hti, ht⟩ := run_collect ho hp hi' fun k hk => by
      have h := hinc (k + 2) (by simp only [List.length_cons, List.length_append, List.length_nil]; omega)
      rwa [List.take_succ_cons, List.take_succ_cons, List.take_append_of_le_length hk] at h
    obtain ⟨v, hstep, hvi, hcase⟩ := ht.server_last hr hti
    refine ⟨v, ?_, hvi, hcase⟩
    have hlen : (0x54#8 :: 0xAB#8 :: (init ++ [last])).length = init.length + 2 + 1 := by simp
    rw [hlen, run_add 1 hrun]
    exact run_succ hstep 0

/-! A client, up to the last byte. -/

/-- What the last byte of a list brings a client to that holds the others (41_frame_codec.md R122). -/
inductive ClientCase (s : State) (bytes : List Byte) (b : Byte) (rest : List Offer) (t : State) : Prop where
  | incomplete (hv : tryDecode s.cfg (bytes ++ [b]) = .incomplete) (u : State) (hstep : step t = .next u)
      (hi : u.inputs = rest) (hu : Holds s (bytes ++ [b]) u)
  | overrun (hv : tryDecode s.cfg (bytes ++ [b]) = .error .receiveOverrun)
      (hstep : step t = .next (droppedFrame .receiveOverrun
        { t with inputs := rest, rxLen := t.rxLen + BitVec.ofNat 32 (b.toNat % 128 * 2 ^ (7 * t.rxLenN))
                 rxLenN := t.rxLenN + 1 }))
  | good (hp : t.rxPhase = .crc1)
      (hsum : frameCrc s.cfg.crc (bytes.take (bytes.length - 1)) = setCrcHigh t.rxCrc b)
      (hv : tryDecode s.cfg (bytes ++ [b]) = .frame (sourceId t.rxSrc) (responseRequested t.rxSrc) t.rxDst t.rxPay)
  | bad (hp : t.rxPhase = .crc1)
      (hsum : ¬ frameCrc s.cfg.crc (bytes.take (bytes.length - 1)) = setCrcHigh t.rxCrc b)
      (hv : tryDecode s.cfg (bytes ++ [b]) = .error .checksumMismatch)

theorem Holds.sumMatches_iff {s t : State} {bytes : List Byte} (h : Holds s bytes t) (b : Byte) :
    sumMatches t b ↔ frameCrc s.cfg.crc (bytes.take (bytes.length - 1)) = setCrcHigh t.rxCrc b := by
  rw [sumMatches, h.cfg, h.rxBytes]

theorem Holds.client_last {s t : State} {bytes : List Byte} {b : Byte} {rest : List Offer} (h : Holds s bytes t)
    (hi : t.inputs = offerBytes [b] ++ rest) : ClientCase s bytes b rest t := by
  obtain ⟨u, rfl, hold, hstep⟩ := h.next hi
  cases rxTake_case hold.inFrame b with
  | more hv _ _ _ =>
    rw [hold.verdict] at hv
    obtain ⟨v, hvstep, hvi, hheld⟩ := h.collect hi hv
    exact .incomplete hv v hvstep hvi hheld
  | overrun hv hp ht =>
    rw [handle_rxByte b (.inr hp), ht] at hstep
    exact .overrun ((hold.verdict b).symm.trans hv) hstep
  | good hp hsum hv => exact .good hp ((hold.sumMatches_iff b).1 hsum) ((hold.verdict b).symm.trans hv)
  | bad hp hsum hv => exact .bad hp (mt (hold.sumMatches_iff b).2 hsum) ((hold.verdict b).symm.trans hv)

/-- A list of bytes that begins with the header, each shorter list incomplete, at a client: it holds all but the last
byte, with nothing else changed. -/
theorem run_client {s : State} {bytes : List Byte} {last : Byte} {rest : List Offer} (hr : s.cfg.role = .client)
    (hp : s.rxPhase = .h0) (hi : s.inputs = offerBytes (bytes ++ [last]) ++ rest)
    (hhead : (bytes ++ [last]).take 2 = [0x54#8, 0xAB#8])
    (hinc : ∀ k, k ≤ bytes.length → tryDecode s.cfg ((bytes ++ [last]).take k) = .incomplete) :
    ∃ t : State, Host.Core.run Sys2Proof.core bytes.length s = .next t ∧ t.inputs = offerBytes [last] ++ rest ∧
      t.rxBytes = bytes ∧ t.outside = s.outside ∧ ClientCase s bytes last rest t := by
  have ho : receiveOpen s = true := (receiveOpen_iff s).2 (.inl hr)
  rw [offerBytes_append] at hi
  match bytes with
  | [] => simp at hhead
  | [a] =>
    obtain ⟨rfl, rfl⟩ : a = 0x54#8 ∧ last = 0xAB#8 := by simpa using hhead
    obtain ⟨u, hustep, hui, hu⟩ := step_of_header1 (s :=
      { s with inputs := offerBytes [0xAB#8] ++ rest, rxBytes := [0x54#8], rxPhase := .h1 }) ho rfl rfl
    exact ⟨_, run_succ (step_of_header0 ho hp hi) 0, rfl, rfl, rfl,
      .incomplete rfl u hustep hui ⟨hu.inFrame, hu.rxBytes, hu.outside, hu.accum⟩⟩
  | a :: c :: init =>
    obtain ⟨rfl, rfl⟩ : a = 0x54#8 ∧ c = 0xAB#8 := by simpa using hhead
    obtain ⟨t, hrun, hti, ht⟩ := run_collect ho hp hi fun k hk => by
      have h := hinc (k + 2) (Nat.add_le_add_right hk 2)
      rwa [List.cons_append, List.cons_append, List.take_succ_cons, List.take_succ_cons,
        List.take_append_of_le_length hk] at h
    exact ⟨t, hrun, hti, ht.rxBytes, ht.outside, ht.client_last hti⟩

/-- Settles O14: a server's whole list, a client's up to its last byte, and each byte outside a frame. -/
theorem receiverAgreesWithTryDecode : Obligations.ReceiverAgreesWithTryDecode := by
  refine ⟨fun s bytes rest hr hs hp hi hhead hinc => ?_, fun s bytes last rest hr hp hi hhead hinc => ?_,
    hunting_cases⟩
  · obtain ⟨t, hrun, hti, hcase⟩ := run_server hr hs hp hi hhead hinc
    refine ⟨t, hrun, hti, ?_⟩
    cases hcase with
    | incomplete hv ht =>
      obtain ⟨-, -, hstats, -⟩ := State.outside_fields ht.outside
      rw [hv]
      exact ⟨ht.accum hr, hstats, ht.rxBytes⟩
    | overrun hv hidle hh0 hb hstats =>
      rw [hv]
      exact .inr ⟨rfl, hidle, hh0, hb, hstats⟩
    | good hval hout hsum hv =>
      obtain ⟨-, -, hstats, -⟩ := State.outside_fields hout
      rw [hv]
      exact ⟨hval, hstats, hsum, rfl, rfl, rfl, rfl⟩
    | bad hval hout hsum hv =>
      obtain ⟨-, -, hstats, -⟩ := State.outside_fields hout
      rw [hv]
      exact .inl ⟨rfl, hval, hstats, hsum⟩
  · obtain ⟨t, hrun, hti, hb, hout, hcase⟩ := run_client hr hp hi hhead hinc
    obtain ⟨-, -, hstats, -, -, hcli, hreq, hres⟩ := State.outside_fields hout
    refine ⟨t, hrun, hti, hb, hstats, hcli, hreq, hres, ?_⟩
    cases hcase with
    | incomplete hv u hstep hui hu =>
      obtain ⟨-, -, hstats, -, -, hcli, hreq, hres⟩ := State.outside_fields hu.outside
      rw [hv]
      exact ⟨u, hstep, hui, hu.inFrame.ne_h0, hu.rxBytes, hstats, hcli, hreq, hres⟩
    | overrun hv hstep =>
      rw [hv]
      exact .inr ⟨rfl, hstep⟩
    | good hphase hsum hv =>
      rw [hv]
      exact ⟨hphase, hsum, rfl, rfl, rfl, rfl⟩
    | bad hphase hsum hv =>
      rw [hv]
      exact .inl ⟨rfl, hphase, hsum⟩

/-! A frame sent to a server. -/

/-- Fewer bytes than a varuint has are no varuint. -/
theorem varDecode_take_varEncode {v : U32} {k : Nat} (hk : k < vlen v) : varDecode ((varEncode v).take k) = none := by
  obtain ⟨init, last, heq, hinit, -⟩ := varEncode_isVaruintOf v
  rw [vlen, heq, List.length_append, List.length_singleton] at hk
  rw [varDecode_eq_none_iff, heq, List.take_append_of_le_length (Nat.le_of_lt_succ hk)]
  exact fun b hb => hinit b (List.mem_of_mem_take (List.mem_of_mem_take hb))

theorem vlen_le_five (v : U32) : vlen v ≤ 5 := by
  rw [varuintLength v]
  split_ifs <;> omega

theorem tryDecode_of_fewer_than_four (c : Config) : ∀ {bytes : List Byte}, bytes.length < 4 →
    tryDecode c bytes = .incomplete
  | [], _ | [_], _ | [_, _], _ | [_, _, _], _ => rfl
  | _ :: _ :: _ :: _ :: _, h => absurd h (by simp)

/-- Every list shorter than an encoded frame is incomplete. -/
theorem tryDecode_take_encodeFrame {c : Config} {src : BitVec 7} {rr : Bool} {dst : Byte} {payload : List Byte}
    {k : Nat} (hbuf : c.bufferSize < 2 ^ 32) (hlen : payload.length ≤ c.bufferSize)
    (hk : k < (encodeFrame c.crc src rr dst payload).length) :
    tryDecode c ((encodeFrame c.crc src rr dst payload).take k) = .incomplete := by
  have hN := payloadLength_toNat hbuf hlen
  rw [encodeFrame_length] at hk
  rcases Nat.lt_or_ge k 4 with h4 | h4
  · exact tryDecode_of_fewer_than_four c ((List.length_take_le ..).trans_lt h4)
  obtain ⟨m, rfl⟩ := Nat.exists_eq_add_of_le' h4
  rw [encodeFrame_eq, frameHead_eq_frameFront, frameFront_append]
  simp only [frameFront, List.take_succ_cons]
  set sum := crcBytes _ with hsum
  rcases Nat.lt_or_ge m (vlen (BitVec.ofNat 32 payload.length)) with hm | hm
  · have hv := tryDecode_of_malformed c (sourceByte src rr) dst (varDecode_take_varEncode hm)
    have hfew : ((varEncode (BitVec.ofNat 32 payload.length)).take m).length < 5 :=
      (List.length_take_le ..).trans_lt (hm.trans_le (vlen_le_five _))
    rw [frameFront, List.append_nil, if_pos hfew] at hv
    rwa [List.take_append_of_le_length hm.le]
  · obtain ⟨n, rfl⟩ := Nat.exists_eq_add_of_le hm
    rw [vlen, List.take_length_add_append]
    exact tryDecode_of_short (isVaruint_varEncode _) _ _ (hN.trans_le hlen)
      ((List.length_take_le ..).trans_lt (by omega))

theorem bufferSize_lt_of_wf {c : Config} (h : c.wf = true) : c.bufferSize < 2 ^ 32 := by
  simp only [Config.wf, Bool.and_eq_true, decide_eq_true_eq] at h
  omega

/-- Settles O15: the receiver brings the frame to `VALIDATE`, whose checks it passes. -/
theorem sentFrameIsAccepted : Obligations.SentFrameIsAccepted := by
  intro s src rr dst payload rest hwf hr hs hp hlen hdst hi hrest
  have hbuf := bufferSize_lt_of_wf hwf
  have hdecode : tryDecode s.cfg (encodeFrame s.cfg.crc src rr dst payload) = .frame src rr dst payload := by
    have h := decodeOfEncodedFrame s.cfg src rr dst payload [] hbuf hlen
    rwa [List.append_nil] at h
  obtain ⟨t, hrun, hti, hcase⟩ := run_server hr hs hp hi rfl fun k hk => tryDecode_take_encodeFrame hbuf hlen hk
  cases hcase with
  | incomplete hv _ => cases hdecode.symm.trans hv
  | overrun hv _ _ _ _ => cases hdecode.symm.trans hv
  | bad _ _ _ hv => cases hdecode.symm.trans hv
  | good hval hout hsum hv =>
    obtain ⟨hcfg, hid, hstats, hslots, houtputs, -⟩ := State.outside_fields hout
    obtain ⟨rfl, rfl, rfl, rfl⟩ := FrameVerdict.frame.inj (hdecode.symm.trans hv)
    have hdest : destinationOk t = true := by rwa [destinationOk_iff, hid, hcfg]
    have hstep : step t = .next t.acceptFrame := by
      rw [step_of_validate (hcfg ▸ hr) hval ?_, validateStep_of_good hsum hdest]
      rw [noEarlyEvent, hti, hval]
      exact hrest
    refine ⟨t.acceptFrame, ?_, rfl, rfl, rfl, rfl, rfl, hti, hstats, hslots, hid, houtputs⟩
    rw [run_add 1 hrun]
    exact run_succ hstep 0

end Sys2Proof.Machine
end

section
/-! PROOF. The `DISPATCH` step (42_dispatcher.md R143 to R152): what the scan and its checks say of a payload, and what
the step then does. -/

namespace Sys2Proof.Machine

open Sys2Proof

/-! The walk of an encoded payload. -/

@[simp] theorem payloadOf_nil : payloadOf [] = [] := rfl

@[simp] theorem payloadOf_cons (i : Instr) (l : List Instr) : payloadOf (i :: l) = encode i ++ payloadOf l := rfl

/-- Well-formed subframes back to back decode one after another (30_encoding.md R84). -/
theorem decodesTo_payloadOf {bufferSize : Nat} {l : List Instr} (h : ∀ i ∈ l, i.wf bufferSize = true)
    (tail : List Byte) : decodesTo bufferSize (payloadOf l ++ tail) l tail := by
  induction l with
  | nil => rfl
  | cons i l ih =>
    obtain ⟨hi, hl⟩ := List.forall_mem_cons.1 h
    refine ⟨payloadOf l ++ tail, ?_, ih hl⟩
    rw [payloadOf_cons, List.append_assoc]
    exact decodeOfEncode bufferSize i _ hi

/-- The walk of a whole payload ends as the walk of what stands behind its subframes. -/
theorem walkPayload_of_decodesTo {role : Role} {bufferSize : Nat} {bytes tail : List Byte} {l : List Instr}
    {out : ScanOutcome} (hl : ∀ i ∈ l, role.takes i = true) (hd : decodesTo bufferSize bytes l tail)
    (htail : ∀ fuel, tail.length ≤ fuel → walk role bufferSize fuel tail = walkResult out []) :
    walkPayload role bufferSize bytes = walkResult out l :=
  walk_of_decodesTo htail l _ _ le_rfl hl hd

/-- The scan of requests with anything behind them. -/
theorem scan_of_requests {bufferSize : Nat} {l : List Instr} {tail : List Byte} {out : ScanOutcome}
    (hl : requestsWf bufferSize l)
    (htail : ∀ fuel, tail.length ≤ fuel → walk .server bufferSize fuel tail = walkResult out []) :
    walkPayload .server bufferSize (payloadOf l ++ tail) = walkResult out l :=
  walkPayload_of_decodesTo (fun i hi => (hl i hi).1) (decodesTo_payloadOf (fun i hi => (hl i hi).2) tail) htail

/-! The checks after the scan (42_dispatcher.md R145, R146). -/

theorem tunnelNotAlone_iff (l : List Instr) :
    tunnelNotAlone l = true ↔ (∃ i ∈ l, ∃ ch, pollChannel i = some ch) ∧ 1 < l.length := by
  simp [tunnelNotAlone, Option.isSome_iff_exists]

theorem noSlotFor_iff (slots : List Slot) (l : List Instr) :
    noSlotFor slots l = true ↔ ∃ i ∈ l, ∃ ch, pollChannel i = some ch ∧ findSlot slots ch = none := by
  simp only [noSlotFor, List.any_eq_true]
  refine exists_congr fun i => and_congr_right fun _ => ?_
  cases pollChannel i <;> simp

/-- The checks find a poll that is not alone or has no slot, and nothing else. -/
theorem badPoll_iff (slots : List Slot) (l : List Instr) :
    (tunnelNotAlone l || noSlotFor slots l) = true ↔
      ∃ i ∈ l, ∃ ch, pollChannel i = some ch ∧ (1 < l.length ∨ findSlot slots ch = none) := by
  rw [Bool.or_eq_true, tunnelNotAlone_iff, noSlotFor_iff]
  constructor
  · rintro (⟨⟨i, hi, ch, hch⟩, hlen⟩ | ⟨i, hi, ch, hch, hslot⟩)
    exacts [⟨i, hi, ch, hch, .inl hlen⟩, ⟨i, hi, ch, hch, .inr hslot⟩]
  · rintro ⟨i, hi, ch, hch, hlen | hslot⟩
    exacts [.inl ⟨⟨i, hi, ch, hch⟩, hlen⟩, .inr ⟨i, hi, ch, hch, hslot⟩]

/-- Where every poll is alone and has a slot, the verdict is the scan's. -/
theorem judge_of_pollsOk {s : State} {r : ScanOutcome × List Instr}
    (hw : walkPayload .server s.cfg.bufferSize s.accPayload = r) (hp : pollsOk s r.2) : judge s = r := by
  have hchecks : ¬ (tunnelNotAlone r.2 || noSlotFor s.slots r.2) = true := by
    rw [badPoll_iff]
    rintro ⟨i, hi, ch, hch, hlen | hslot⟩
    · exact hlen.ne' (hp i hi ch hch).1
    · exact (hp i hi ch hch).2 hslot
  simp only [judge, hw, if_neg hchecks]

/-- A poll that is not alone or has no slot makes the payload malformed. -/
theorem judge_of_badPoll {s : State} {r : ScanOutcome × List Instr}
    (hw : walkPayload .server s.cfg.bufferSize s.accPayload = r)
    (h : ∃ i ∈ r.2, ∃ ch, pollChannel i = some ch ∧ (1 < r.2.length ∨ findSlot s.slots ch = none)) :
    judge s = (.malformed, []) := by
  simp only [judge, hw, if_pos ((badPoll_iff s.slots r.2).2 h)]

/-! The step by its verdict. -/

theorem step_of_dispatch {s : State} (hr : s.cfg.role = .server) (hs : s.srvState = .dispatch)
    (hn : noEarlyEvent s) : step s = dispatchStep s := by
  rw [step_of_noEarlyEvent hn]
  simp only [engineStep, hr, hs]

theorem dispatchStep_of_malformed {s : State} (hr : s.cfg.role = .server) (h : judge s = (.malformed, [])) :
    dispatchStep s = .next (onlyCountedMalformed s) := by
  simp only [dispatchStep, h]
  exact congrArg Host.Outcome.next (State.takeError_malformed_server _ hr)

theorem toCompose_of_dispatch {s : State} (hs : s.srvState = .dispatch) :
    toCompose s = { s with srvState := .compose } := by
  simp only [toCompose, hs]

theorem dispatchStep_of_ok {s t : State} {l : List Instr} (h : judge s = (.ok, l))
    (hx : execAll l { s with scanOutcome := .ok, scanList := l } = .next t) (ht : t.srvState = .dispatch) :
    dispatchStep s = .next { t with srvState := .compose } := by
  simp only [dispatchStep, h, hx, andThen, toCompose_of_dispatch ht]

theorem dispatchStep_of_unknown {s t : State} {l : List Instr} (h : judge s = (.unknown, l))
    (hx : execAll l { s with scanOutcome := .unknown, scanList := l } = .next t) (ht : t.srvState = .dispatch) :
    dispatchStep s = .next { t with stats := t.stats.bump .unknownSubframe, srvState := .compose } := by
  have hcount : (t.takeError .unknownSubframe).srvState = .dispatch := ht
  simp only [dispatchStep, h, hx, andThen, toCompose_of_dispatch hcount]
  rfl

/-! What a server leaves of an executed request (42_dispatcher.md R150, R151). -/

/-- The registers of the reads that a result record answers, in order. -/
def recordRegisters : ResultRec → List U32
  | .wres _ => []
  | .rres _ _ entries => entries.map Prod.fst
  | .tres _ _ => []

/-- What executing a request can do at a server: it leaves one record, of the registers asked for, or it is a poll that
no slot can take. -/
inductive RequestCase (i : Instr) (s t : State) : Prop where
  | record (r : ResultRec) (hregs : recordRegisters r = registersAsked i) (hres : t.results = s.results ++ [r])
      (hsrv : t.srvState = s.srvState)
  | noSlot (ch : U32) (bytes : List Byte) (hi : i = .tunC2S ch bytes) (hslot : findSlot s.slots ch = none)
      (ht : t = s.takeError .malformedSubframe)

theorem asRequest_requestCase {i : Instr} {run : State → State} {s t : State} (hr : s.cfg.role = .server)
    (hx : asRequest run s = .next t)
    (hrun : ∃ cs r, recordRegisters r = registersAsked i ∧ run s = afterCalls s cs r) : RequestCase i s t := by
  obtain ⟨cs, r, hregs, he⟩ := hrun
  simp only [asRequest, hr, he, Host.Outcome.next.injEq] at hx
  subst hx
  exact .record r hregs rfl rfl

theorem writeSingle_registers (reg : U32) (v : Value) (s : State) :
    ∃ cs r, recordRegisters r = [] ∧ writeSingle reg v s = afterCalls s cs r :=
  ⟨_, _, rfl, writeSingle_eq ..⟩

theorem writeMultiple_registers (start : U32) (vs : List Value) (s : State) :
    ∃ cs r, recordRegisters r = [] ∧ writeMultiple start vs s = afterCalls s cs r :=
  ⟨_, _, rfl, writeMultiple_eq ..⟩

theorem readSingle_registers (rep : Rep) (reg : U32) (s : State) :
    ∃ cs r, recordRegisters r = [reg] ∧ readSingle rep reg s = afterCalls s cs r :=
  ⟨_, _, rfl, readSingle_eq ..⟩

theorem readEntries_registers (s : State) (rep : Rep) (start : U32) (n : Nat) :
    (readEntries s rep start n).map Prod.fst = regRange start n := by
  rw [readEntries, List.map_map, regRange_eq]
  rfl

/-- The registers of reads of one representation. -/
theorem map_fst_withRep (rep : Rep) (regs : List U32) : (regs.map fun reg => (reg, rep)).map Prod.fst = regs := by
  rw [List.map_map]
  exact List.map_id regs

theorem readMultiple_registers (rep : Rep) (start count : U32) (s : State) :
    ∃ cs r, recordRegisters r = ((regRange start count.toNat).map fun reg => (reg, rep)).map Prod.fst ∧
      readMultiple rep start count s = afterCalls s cs r :=
  ⟨_, .rres true rep (readEntries s rep start count.toNat),
    (readEntries_registers ..).trans (map_fst_withRep ..).symm, readMultiple_eq ..⟩

theorem receiveTunnel_requestCase (ch : U32) (bytes : List Byte) (s : State) :
    RequestCase (.tunC2S ch bytes) s (receiveTunnel ch bytes s) := by
  obtain ⟨hslot, he⟩ | ⟨i, -, he⟩ := receiveTunnel_cases ch bytes s <;> rw [he]
  · exact .noSlot ch bytes rfl hslot rfl
  · exact .record (.tres ch i) rfl rfl rfl

/-- Every request is executed in one of the two ways. -/
theorem exec_requestCase {i : Instr} {s t : State} (hr : s.cfg.role = .server) (hreq : i.isRequest = true)
    (hx : exec i s = .next t) : RequestCase i s t := by
  cases i with
  | wrI8 reg v => exact asRequest_requestCase hr hx (writeSingle_registers ..)
  | wrI16 reg v => exact asRequest_requestCase hr hx (writeSingle_registers ..)
  | wrI32 reg v => exact asRequest_requestCase hr hx (writeSingle_registers ..)
  | wrF32 reg v => exact asRequest_requestCase hr hx (writeSingle_registers ..)
  | wrmI8 start vs => exact asRequest_requestCase hr hx (writeMultiple_registers ..)
  | wrmI16 start vs => exact asRequest_requestCase hr hx (writeMultiple_registers ..)
  | wrmI32 start vs => exact asRequest_requestCase hr hx (writeMultiple_registers ..)
  | wrmF32 start vs => exact asRequest_requestCase hr hx (writeMultiple_registers ..)
  | rdI8 reg => exact asRequest_requestCase hr hx (readSingle_registers ..)
  | rdI16 reg => exact asRequest_requestCase hr hx (readSingle_registers ..)
  | rdI32 reg => exact asRequest_requestCase hr hx (readSingle_registers ..)
  | rdF32 reg => exact asRequest_requestCase hr hx (readSingle_registers ..)
  | rdmI8 start count => exact asRequest_requestCase hr hx (readMultiple_registers ..)
  | rdmI16 start count => exact asRequest_requestCase hr hx (readMultiple_registers ..)
  | rdmI32 start count => exact asRequest_requestCase hr hx (readMultiple_registers ..)
  | rdmF32 start count => exact asRequest_requestCase hr hx (readMultiple_registers ..)
  | tunC2S ch bytes =>
    simp only [exec, execTunC2S, hr, Host.Outcome.next.injEq] at hx
    exact hx ▸ receiveTunnel_requestCase ch bytes s
  | _ => cases hreq

/-- A request leaves one record and the engine where it is, where a slot can take a poll's channel. -/
theorem exec_request {i : Instr} {s t : State} (hr : s.cfg.role = .server) (hreq : i.isRequest = true)
    (hpoll : ∀ ch, pollChannel i = some ch → findSlot s.slots ch ≠ none) (hx : exec i s = .next t) :
    t.results.length = s.results.length + 1 ∧ t.srvState = s.srvState := by
  cases exec_requestCase hr hreq hx with
  | record r _ hres hsrv => exact ⟨by simp [hres], hsrv⟩
  | noSlot ch bytes hi hslot _ => exact absurd hslot (hpoll ch (by rw [hi]; rfl))

/-- Behind its first subframe a list with a poll is empty. -/
theorem pollsOk_tail {s : State} {i : Instr} {l : List Instr} (h : pollsOk s (i :: l)) (t : State) : pollsOk t l := by
  intro j hj ch hch
  obtain ⟨hone, -⟩ := h j (List.mem_cons_of_mem _ hj) ch hch
  have hpos := List.length_pos_of_mem hj
  rw [List.length_cons] at hone
  omega

/-- Requests are executed to one record each, and the engine stays where it is (42_dispatcher.md R152). -/
theorem execAll_requests {l : List Instr} : ∀ {s : State}, s.cfg.role = .server → (∀ i ∈ l, i.isRequest = true) →
    pollsOk s l → ∃ t, execAll l s = .next t ∧ t.results.length = s.results.length + l.length ∧
      t.srvState = s.srvState := by
  induction l with
  | nil => exact fun _ _ _ => ⟨_, rfl, rfl, rfl⟩
  | cons i l ih =>
    intro s hr hreq hpoll
    obtain ⟨hi, hl⟩ := List.forall_mem_cons.1 hreq
    obtain ⟨u, hu, -⟩ := exec_cases i s
    obtain ⟨hcfg, -⟩ := exec_frame hu
    obtain ⟨hres, hsrv⟩ := exec_request hr hi (fun ch hch => (hpoll i List.mem_cons_self ch hch).2) hu
    obtain ⟨t, ht, hlen, hsrv'⟩ := ih (hcfg ▸ hr) hl (pollsOk_tail hpoll u)
    refine ⟨t, by simp only [execAll, hu, ht], ?_, hsrv'.trans hsrv⟩
    rw [hlen, hres, List.length_cons]
    omega

/-! The statements. -/

/-- Settles O28: the scan yields the whole list, and each request leaves its record. -/
theorem dispatchRunsWholePayload : Obligations.DispatchRunsWholePayload := by
  intro s l hr hs hn hl hpoll hacc
  have hscan := scan_of_requests hl fun fuel _ => walk_nil .server s.cfg.bufferSize fuel
  rw [List.append_nil, ← hacc] at hscan
  obtain ⟨t, ht, hlen, hsrv⟩ := execAll_requests (s := { s with scanOutcome := .ok, scanList := l }) hr
    (fun i hi => (hl i hi).1) hpoll
  refine ⟨t, ht, hlen, ?_⟩
  rw [step_of_dispatch hr hs hn]
  exact dispatchStep_of_ok (judge_of_pollsOk hscan hpoll) ht (hsrv.trans hs)

/-- Settles O29: the scan yields the list before the tag. -/
theorem unknownTagRunsPrefix : Obligations.UnknownTagRunsPrefix := by
  intro s l tail tag hr hs hn hl hpoll htail hacc
  have hscan := scan_of_requests hl fun fuel => walk_of_unknown (fuel := fuel) htail
  rw [← hacc] at hscan
  obtain ⟨t, ht, -, hsrv⟩ := execAll_requests (s := { s with scanOutcome := .unknown, scanList := l }) hr
    (fun i hi => (hl i hi).1) hpoll
  refine ⟨t, ht, ?_⟩
  rw [step_of_dispatch hr hs hn]
  exact dispatchStep_of_unknown (judge_of_pollsOk hscan hpoll) ht (hsrv.trans hs)

/-- Settles O30: the malformed subframe empties the scan list. -/
theorem malformedPayloadHasNoEffect : Obligations.MalformedPayloadHasNoEffect := by
  intro s l tail why hr hs hn hl hne hwhy hacc
  have hscan := scan_of_requests hl fun fuel => walk_of_malformed (fuel := fuel) hne hwhy
  rw [← hacc] at hscan
  rw [step_of_dispatch hr hs hn]
  exact dispatchStep_of_malformed hr (judge_of_pollsOk hscan fun i hi => absurd hi List.not_mem_nil)

/-- Settles O31: the checks after the scan find the poll. -/
theorem tunnelPollMustBeAloneWithSlot : Obligations.TunnelPollMustBeAloneWithSlot := by
  intro s l tail hr hs hn hl htail hacc hbad
  obtain ⟨out, hout, hend⟩ : ∃ out, out ≠ .malformed ∧ ∀ fuel, tail.length ≤ fuel →
      walk .server s.cfg.bufferSize fuel tail = walkResult out [] := by
    rcases htail with rfl | ⟨tag, htag⟩
    · exact ⟨.ok, by decide, fun fuel _ => walk_nil ..⟩
    · exact ⟨.unknown, by decide, fun fuel => walk_of_unknown htag⟩
  have hscan := scan_of_requests hl hend
  rw [← hacc, walkResult, if_neg hout] at hscan
  rw [step_of_dispatch hr hs hn]
  exact dispatchStep_of_malformed hr (judge_of_badPoll hscan hbad)

/-- Settles O26: the walk of any encoding of one subframe, with nothing behind it. -/
theorem stepRunsServedSubframe : Obligations.StepRunsServedSubframe := by
  intro s i hr hs hn hreq hd hslot
  have hpoll : pollsOk s [i] := by simpa [pollsOk] using hslot
  have hscan := walkPayload_of_decodesTo (role := .server) (l := [i]) (by simpa [Role.takes] using hreq)
    ⟨[], hd, rfl⟩ fun fuel _ => walk_nil .server s.cfg.bufferSize fuel
  obtain ⟨t, ht, -⟩ := exec_cases i { s with scanOutcome := .ok, scanList := [i] }
  obtain ⟨-, hsrv⟩ := exec_request (s := { s with scanOutcome := .ok, scanList := [i] }) hr hreq hslot ht
  refine ⟨t, ht, hsrv.trans hs, ?_⟩
  rw [step_of_dispatch hr hs hn]
  have hx : execAll [i] { s with scanOutcome := .ok, scanList := [i] } = .next t := by simp only [execAll, ht]
  exact dispatchStep_of_ok (judge_of_pollsOk hscan hpoll) hx (hsrv.trans hs)

end Sys2Proof.Machine
end

section
/-! PROOF. Answering (42_dispatcher.md R153 to R159): when a reply is sent, how much of it, and the end of its
transmission. -/

namespace Sys2Proof.Machine

open Sys2Proof

theorem needsReply_iff (rr : Bool) (subs : List Instr) :
    needsReply rr subs = true ↔ rr = true ∨ ∃ i ∈ subs, isRead i = true ∨ ∃ ch, pollChannel i = some ch := by
  simp only [needsReply, Bool.or_eq_true, List.any_eq_true, Option.isSome_iff_exists, or_assoc, ← exists_or,
    ← and_or_left]

theorem step_of_compose {s : State} (hr : s.cfg.role = .server) (hs : s.srvState = .compose)
    (hn : noEarlyEvent s) : step s = .next (composeStep s) := by
  rw [step_of_noEarlyEvent hn]
  simp only [engineStep, hr, hs]

/-- Settles O32: the first branch of `COMPOSE`. -/
theorem replyIsSentWhenNeeded : Obligations.ReplyIsSentWhenNeeded := by
  intro s hr hs hn hneed
  rw [step_of_compose hr hs hn, composeStep, if_pos ((needsReply_iff ..).2 hneed)]
  rfl

/-- Settles O33: the second branch of `COMPOSE`. -/
theorem noReplyDropsResults : Obligations.NoReplyDropsResults := by
  intro s hr hs hn hneed
  rw [step_of_compose hr hs hn, composeStep, if_neg (mt (needsReply_iff ..).1 hneed)]
  rfl

/-- Settles O41: a server in `SEND` takes `TxDone`. -/
theorem sendEndsInIdle : Obligations.SendEndsInIdle := by
  intro s ok mark rest hr hs hi
  have hopen : accepts s (.txDone ok) = true := (txPending_iff s).2 (.inl ⟨hr, hs⟩)
  rw [step_takes_head hi hopen (.inr (.inr (.inr (.inr hs))))]
  simp only [handle, txDone, hr, serverTxDone]

/-! The part of the composed subframes that fits (42_dispatcher.md R155). -/

/-- Settles O34: the first subframe is packed where it fits, and the rest into the room it leaves. -/
theorem replyPayloadIsLongestFit : Obligations.ReplyPayloadIsLongestFit := by
  intro room subs
  induction subs generalizing room with
  | nil => exact ⟨0, le_rfl, rfl, Nat.zero_le _, fun h => absurd h (Nat.lt_irrefl 0)⟩
  | cons i rest ih =>
    by_cases hfit : (encode i).length ≤ room
    · obtain ⟨k, hk, hpack, hlen, hmax⟩ := ih (room - (encode i).length)
      refine ⟨k + 1, Nat.succ_le_succ hk, ?_, ?_, fun h => ?_⟩
      · rw [packReply, if_pos hfit, hpack, List.take_succ_cons, payloadOf_cons]
      · rw [List.take_succ_cons, payloadOf_cons, List.length_append]
        omega
      · have hmore := hmax (Nat.lt_of_succ_lt_succ h)
        rw [List.take_succ_cons, payloadOf_cons, List.length_append]
        omega
    · refine ⟨0, Nat.zero_le _, by simp [packReply, hfit], Nat.zero_le _, fun _ => ?_⟩
      simpa using hfit

end Sys2Proof.Machine
end

section
/-! PROOF. The subframes composed for a reply (42_dispatcher.md R154, R161, 44_tunnel.md R213): each fits a reply alone,
and together they mention every register read. -/

namespace Sys2Proof.Machine

open Sys2Proof

/-! The length of a varuint. -/

theorem vlen_mono {a b : U32} (h : a.toNat ≤ b.toNat) : vlen a ≤ vlen b := by
  rw [vlen_eq_log, vlen_eq_log]
  exact Nat.succ_le_succ (Nat.log_mono_right h)

theorem vlen_one : vlen 1#32 = 1 := by decide

/-! Consecutive registers. -/

/-- Each register of the list is the one after the register before it (modulo 2^32). -/
def consecutive (regs : List U32) : Prop :=
  regs.IsChain fun a b => b = a + 1#32

theorem consecutive_regRange (n : Nat) : ∀ start, consecutive (regRange start n) := by
  induction n with
  | zero => exact fun _ => .nil
  | succ n ih =>
    intro start
    cases n with
    | zero => exact .singleton _
    | succ n => exact .cons_cons rfl (ih (start + 1#32))

/-- Consecutive registers are those of a multiple form from the first of them. -/
theorem eq_regRange_of_consecutive {regs : List U32} : ∀ {start}, consecutive (start :: regs) →
    start :: regs = regRange start (regs.length + 1) := by
  induction regs with
  | nil => exact fun _ => rfl
  | cons reg regs ih =>
    intro start h
    obtain ⟨rfl, hrest⟩ := List.isChain_cons_cons.1 h
    exact congrArg (start :: ·) (ih hrest)

theorem regRange_length (start : U32) (n : Nat) : (regRange start n).length = n := by
  rw [regRange_eq, List.length_map, List.length_range]

/-- What stands in a range that does not pass the top is such a range itself. -/
theorem rangeWf_of_infix {a start : U32} {m n : Nat} (h : regRange a m <:+: regRange start n)
    (hr : rangeWf start n = true) : rangeWf a m = true := by
  obtain ⟨before, behind, heq⟩ := h
  obtain ⟨hn, htop⟩ := rangeWf_iff.1 hr
  have hlen : before.length + (m + behind.length) = n := by
    simpa [regRange_length] using congrArg List.length heq
  rw [rangeWf_iff]
  cases m with
  | zero => omega
  | succ m =>
    have hlt : before.length < n := by omega
    have hfirst : a = regAt start before.length := by
      have := congrArg (·[before.length]?) heq
      simpa [regRange, regRange_eq, hlt] using this
    rw [hfirst, regAt_toNat start _ (by omega)]
    omega

/-! `Split` (42_dispatcher.md R154). -/

theorem repSize_le_four (rep : Rep) : rep.size ≤ 4 := by
  cases rep <;> decide

/-- One value fits a reply alone, whatever its register. -/
theorem fitsAlone_one {bufferSize : Nat} (h : 16 ≤ bufferSize) (rep : Rep) (reg : U32) :
    fitsAlone bufferSize rep reg 1 = true := by
  have hreg := vlen_le_five reg
  have hsize := repSize_le_four rep
  rw [fitsAlone, decide_eq_true_iff, vlen_one]
  omega

/-- A run that is not empty is cut behind one of its registers, into a subframe that fits and the rest. -/
theorem splitRun_cons {bufferSize : Nat} (h : 16 ≤ bufferSize) (rep : Rep) (fuel : Nat) (reg : U32) (v : Value)
    (more : List (U32 × Value)) :
    ∃ k, k ≤ more.length ∧ fitsAlone bufferSize rep reg (k + 1) = true ∧
      splitRun bufferSize rep (fuel + 1) ((reg, v) :: more) =
        rplmOf rep reg (v :: (more.take k).map Prod.snd) :: splitRun bufferSize rep fuel (more.drop k) := by
  have hle := greatest_le (fitsAlone bufferSize rep reg) (more.length + 1)
  have hpos : greatest (fitsAlone bufferSize rep reg) (more.length + 1) ≠ 0 := by
    intro h0
    have hone := greatest_max (fitsAlone bufferSize rep reg) (more.length + 1) 1 (by omega) (by omega)
    rw [fitsAlone_one h] at hone
    cases hone
  have hfit := greatest_holds _ _ hpos
  obtain ⟨k, hk⟩ := Nat.exists_eq_add_one_of_ne_zero hpos
  refine ⟨k, by omega, hk ▸ hfit, ?_⟩
  simp only [splitRun, List.length_cons, hk, List.take_succ_cons, List.map_cons, List.drop_succ_cons]

theorem mentionedReads_rplmOf (rep : Rep) (start : U32) (vs : List Value) :
    mentionedReads (rplmOf rep start vs) = regRange start vs.length := by
  cases rep <;> simp [rplmOf, mentionedReads, regRange_eq]

/-- A run of consecutive registers is mentioned whole. -/
theorem splitRun_mentions {bufferSize : Nat} (h : 16 ≤ bufferSize) (rep : Rep) (fuel : Nat) :
    ∀ run : List (U32 × Value), run.length ≤ fuel → consecutive (run.map Prod.fst) →
      (splitRun bufferSize rep fuel run).flatMap mentionedReads = run.map Prod.fst := by
  induction fuel with
  | zero =>
    intro run hlen _
    rw [List.length_eq_zero_iff.1 (Nat.le_zero.1 hlen)]
    rfl
  | succ fuel ih =>
    intro run hlen hrun
    match run with
    | [] => rfl
    | (reg, v) :: more =>
      obtain ⟨k, hk, -, hsplit⟩ := splitRun_cons h rep fuel reg v more
      have hparts : ((reg, v) :: more).map Prod.fst =
          (reg :: (more.take k).map Prod.fst) ++ (more.drop k).map Prod.fst := by
        rw [List.cons_append, ← List.map_append, List.take_append_drop, List.map_cons]
      rw [hparts] at hrun ⊢
      have hshort : (more.drop k).length ≤ fuel := by
        rw [List.length_cons] at hlen
        rw [List.length_drop]
        omega
      rw [hsplit, List.flatMap_cons, ih _ hshort hrun.right_of_append, mentionedReads_rplmOf,
        eq_regRange_of_consecutive hrun.left_of_append]
      simp only [List.length_cons, List.length_map]

/-- The subframe is of the reply class and fits a reply alone. -/
def fitsReply (bufferSize : Nat) (i : Instr) : Prop :=
  i.isRequest = false ∧ (encode i).length ≤ bufferSize

theorem encode_rplmOf_length (rep : Rep) (start : U32) (vs : List Value) :
    (encode (rplmOf rep start vs)).length =
      1 + vlen start + vlen (BitVec.ofNat 32 vs.length) + vs.length * rep.size := by
  cases rep with
  | i8 => exact (Laws.EncodedLength.rplmI8 ..).trans (by simp [Laws.bodyLength, Rep.size, Nat.add_assoc])
  | i16 => exact (Laws.EncodedLength.rplmI16 ..).trans (by simp [Laws.bodyLength, Rep.size, Nat.add_assoc])
  | i32 => exact (Laws.EncodedLength.rplmI32 ..).trans (by simp [Laws.bodyLength, Rep.size, Nat.add_assoc])
  | f32 => exact (Laws.EncodedLength.rplmF32 ..).trans (by simp [Laws.bodyLength, Rep.size, Nat.add_assoc])

/-- `Split` asks for exactly the room that its subframe takes. -/
theorem rplmOf_fits {bufferSize : Nat} {rep : Rep} {start : U32} {vs : List Value}
    (h : fitsAlone bufferSize rep start vs.length = true) : fitsReply bufferSize (rplmOf rep start vs) := by
  refine ⟨by cases rep <;> rfl, ?_⟩
  rw [encode_rplmOf_length]
  exact of_decide_eq_true h

theorem splitRun_fits {bufferSize : Nat} (h : 16 ≤ bufferSize) (rep : Rep) (fuel : Nat) :
    ∀ run, ∀ i ∈ splitRun bufferSize rep fuel run, fitsReply bufferSize i := by
  induction fuel with
  | zero => intro run i hi; cases hi
  | succ fuel ih =>
    intro run i hi
    match run with
    | [] => cases hi
    | (reg, v) :: more =>
      obtain ⟨k, hk, hfit, hsplit⟩ := splitRun_cons h rep fuel reg v more
      rw [hsplit] at hi
      rcases List.mem_cons.1 hi with rfl | hi
      · exact rplmOf_fits (by simpa [hk] using hfit)
      · exact ih _ i hi

/-! One result record (42_dispatcher.md R154). -/

theorem werr_fits {bufferSize : Nat} (h : 16 ≤ bufferSize) (reg code : U32) :
    fitsReply bufferSize (.werr reg code) := by
  have hreg := vlen_le_five reg
  have hcode := vlen_le_five code
  refine ⟨rfl, ?_⟩
  rw [Laws.EncodedLength.werr, Laws.bodyLength]
  omega

theorem rerr_fits {bufferSize : Nat} (h : 16 ≤ bufferSize) (reg code : U32) :
    fitsReply bufferSize (.rerr reg code) := by
  have hreg := vlen_le_five reg
  have hcode := vlen_le_five code
  refine ⟨rfl, ?_⟩
  rw [Laws.EncodedLength.rerr, Laws.bodyLength]
  omega

theorem encode_rplOf_length (reg : U32) (v : Value) :
    (encode (rplOf reg v)).length = 1 + (vlen reg + v.rep.size) := by
  cases v with
  | i8 b => exact Laws.EncodedLength.rplI8 reg b
  | i16 b => exact Laws.EncodedLength.rplI16 reg b
  | i32 b => exact Laws.EncodedLength.rplI32 reg b
  | f32 b => exact Laws.EncodedLength.rplF32 reg b

theorem rplOf_fits {bufferSize : Nat} (h : 16 ≤ bufferSize) (reg : U32) (v : Value) :
    fitsReply bufferSize (rplOf reg v) := by
  have hreg := vlen_le_five reg
  have hsize := repSize_le_four v.rep
  refine ⟨by cases v <;> rfl, ?_⟩
  rw [encode_rplOf_length]
  omega

theorem mentionedReads_rplOf (reg : U32) (v : Value) : mentionedReads (rplOf reg v) = [reg] := by
  cases v <;> rfl

theorem composeReads_fits {bufferSize : Nat} (h : 16 ≤ bufferSize) (rep : Rep) (entries : List (U32 × ReadAnswer)) :
    ∀ run, ∀ i ∈ composeReads bufferSize rep run entries, fitsReply bufferSize i := by
  induction entries with
  | nil => exact fun run => splitRun_fits h rep _ run
  | cons e rest ih =>
    intro run i hi
    match e with
    | (reg, .ok v) => exact ih _ i hi
    | (reg, .err code) =>
      rcases List.mem_append.1 hi with hi | hi
      · exact splitRun_fits h rep _ run i hi
      · rcases List.mem_cons.1 hi with rfl | hi
        · exact rerr_fits h reg code
        · exact ih _ i hi

/-- The run collected so far and the entries after it are mentioned whole, where their registers are consecutive. -/
theorem composeReads_mentions {bufferSize : Nat} (h : 16 ≤ bufferSize) (rep : Rep)
    (entries : List (U32 × ReadAnswer)) : ∀ run : List (U32 × Value),
    consecutive (run.map Prod.fst ++ entries.map Prod.fst) →
      (composeReads bufferSize rep run entries).flatMap mentionedReads =
        run.map Prod.fst ++ entries.map Prod.fst := by
  induction entries with
  | nil =>
    intro run hrun
    rw [List.map_nil, List.append_nil] at hrun ⊢
    exact splitRun_mentions h rep _ run le_rfl hrun
  | cons e rest ih =>
    intro run hrun
    match e with
    | (reg, .ok v) =>
      have hmoved : run.map Prod.fst ++ ((reg, ReadAnswer.ok v) :: rest).map Prod.fst =
          (run ++ [(reg, v)]).map Prod.fst ++ rest.map Prod.fst := by simp
      rw [hmoved] at hrun ⊢
      exact ih _ hrun
    | (reg, .err code) =>
      have hafter : consecutive (rest.map Prod.fst) := hrun.right_of_append.tail
      simp only [composeReads, List.flatMap_append, List.flatMap_cons,
        splitRun_mentions h rep _ run le_rfl hrun.left_of_append, ih [] hafter]
      rfl

/-- A fit of 0 bytes leaves room for a subframe without any. -/
theorem tunnelFit_fits {bufferSize : Nat} (h : 16 ≤ bufferSize) (ch : U32) :
    1 + vlen ch + vlen (BitVec.ofNat 32 (tunnelFit bufferSize ch)) + tunnelFit bufferSize ch ≤ bufferSize := by
  by_cases h0 : tunnelFit bufferSize ch = 0
  · have hch := vlen_le_five ch
    have hzero : vlen (BitVec.ofNat 32 0) = 1 := by decide
    rw [h0, hzero]
    omega
  · exact of_decide_eq_true (greatest_holds _ _ h0)

/-- Fewer bytes than fit a reply alone have no longer count (44_tunnel.md R213). -/
theorem tunS2C_fits {bufferSize : Nat} (h : 16 ≤ bufferSize) (htop : bufferSize ≤ 2 ^ 28 - 1) {ch : U32}
    {bytes : List Byte} (hlen : bytes.length ≤ tunnelFit bufferSize ch) :
    fitsReply bufferSize (.tunS2C ch bytes) := by
  have hfit := tunnelFit_fits h ch
  have hcount : vlen (BitVec.ofNat 32 bytes.length) ≤ vlen (BitVec.ofNat 32 (tunnelFit bufferSize ch)) := by
    apply vlen_mono
    rwa [u32_toNat_ofNat (by omega), u32_toNat_ofNat (by omega)]
  refine ⟨rfl, ?_⟩
  rw [Laws.EncodedLength.tunS2C, Laws.bodyLength]
  omega

theorem serverToClient_fits {bufferSize : Nat} (h : 16 ≤ bufferSize) (htop : bufferSize ≤ 2 ^ 28 - 1) (ch : U32)
    (i : Nat) (slots : List Slot) : fitsReply bufferSize (serverToClient bufferSize ch i slots).1 :=
  tunS2C_fits h htop ((List.length_take_le ..).trans (Nat.min_le_right ..))

theorem composeOne_fits {bufferSize : Nat} (h : 16 ≤ bufferSize) (htop : bufferSize ≤ 2 ^ 28 - 1) (slots : List Slot)
    (r : ResultRec) : ∀ i ∈ (composeOne bufferSize slots r).1, fitsReply bufferSize i := by
  match r with
  | .wres errors =>
    intro i hi
    obtain ⟨e, -, rfl⟩ := List.mem_map.1 hi
    exact werr_fits h e.1 e.2
  | .rres false rep entries =>
    intro i hi
    obtain ⟨⟨reg, x⟩, -, rfl⟩ := List.mem_map.1 hi
    cases x with
    | ok v => exact rplOf_fits h reg v
    | err code => exact rerr_fits h reg code
  | .rres true rep entries => exact composeReads_fits h rep entries []
  | .tres ch i => exact List.forall_mem_singleton.2 (serverToClient_fits h htop ch i slots)

/-- The subframes of a record mention the registers of its reads. -/
theorem composeOne_mentions {bufferSize : Nat} (h : 16 ≤ bufferSize) (slots : List Slot) {r : ResultRec}
    (hr : consecutive (recordRegisters r)) :
    (composeOne bufferSize slots r).1.flatMap mentionedReads = recordRegisters r := by
  match r with
  | .wres errors => simp [composeOne, recordRegisters, List.flatMap_map, mentionedReads]
  | .rres false rep entries =>
    have hone : ∀ e, mentionedReads (composeRead e) = [e.1]
      | (reg, .ok v) => mentionedReads_rplOf reg v
      | (reg, .err code) => rfl
    simp only [composeOne, recordRegisters, List.flatMap_map, hone]
    exact List.map_eq_flatMap.symm
  | .rres true rep entries => exact composeReads_mentions h rep entries [] hr
  | .tres ch i => rfl

/-! All result records. -/

/-- A composed subframe comes from one of the records. -/
theorem mem_composeAll {bufferSize : Nat} {i : Instr} {rs : List ResultRec} : ∀ {slots},
    i ∈ (composeAll bufferSize rs slots).1 → ∃ r ∈ rs, ∃ slots', i ∈ (composeOne bufferSize slots' r).1 := by
  induction rs with
  | nil => intro slots hi; cases hi
  | cons r rs ih =>
    intro slots hi
    rcases List.mem_append.1 hi with hi | hi
    · exact ⟨r, List.mem_cons_self, slots, hi⟩
    · obtain ⟨r', hr', hi'⟩ := ih hi
      exact ⟨r', List.mem_cons_of_mem _ hr', hi'⟩

theorem composeAll_mentions {bufferSize : Nat} (h : 16 ≤ bufferSize) {rs : List ResultRec} : ∀ slots,
    (∀ r ∈ rs, consecutive (recordRegisters r)) →
      (composeAll bufferSize rs slots).1.flatMap mentionedReads = rs.flatMap recordRegisters := by
  induction rs with
  | nil => exact fun _ _ => rfl
  | cons r rs ih =>
    intro slots hrs
    obtain ⟨hr, hrest⟩ := List.forall_mem_cons.1 hrs
    simp only [composeAll, List.flatMap_append, List.flatMap_cons, composeOne_mentions h slots hr, ih _ hrest]

/-- Settles O35: each record is composed of subframes that fit. -/
theorem composedSubframesFit : Obligations.ComposedSubframesFit := by
  intro bufferSize results slots h htop i hi
  obtain ⟨r, -, slots', hi'⟩ := mem_composeAll hi
  exact composeOne_fits h htop slots' r i hi'

end Sys2Proof.Machine
end

section
/-! PROOF. The reply to executed requests (42_dispatcher.md R150 to R155, R161): what it mentions is what was asked, and a
client walks its payload to the subframes that were packed (45_client.md R230, R231). -/

namespace Sys2Proof.Machine

open Sys2Proof

/-! The registers asked. -/

/-- The subframe asks for the registers of one range, which does not pass the top where it is well-formed. -/
def asksRange (i : Instr) : Prop :=
  ∃ start n, registersAsked i = regRange start n ∧ ∀ bufferSize, i.wf bufferSize = true → rangeWf start n = true

theorem asksRange_of_none {i : Instr} (h : registersAsked i = []) : asksRange i :=
  ⟨0#32, 0, h, fun _ _ => by decide⟩

theorem asksRange_of_single {i : Instr} {reg : U32} (h : registersAsked i = [reg]) : asksRange i :=
  ⟨reg, 1, h, fun _ _ => rangeWf_iff.2 ⟨by decide, reg.isLt⟩⟩

theorem asksRange_of_multiple {i : Instr} {start count : U32} (rep : Rep)
    (h : readsAsked i = (regRange start count.toNat).map fun reg => (reg, rep))
    (hwf : ∀ bufferSize, i.wf bufferSize = readRangeWf bufferSize start count) : asksRange i := by
  refine ⟨start, count.toNat, ?_, fun bufferSize hi => ?_⟩
  · rw [registersAsked, h, map_fst_withRep]
  · obtain ⟨htop, -⟩ := readRangeWf_iff.1 (hwf bufferSize ▸ hi)
    exact rangeWf_iff.2 ⟨count.isLt, htop⟩

theorem asksRange_all (i : Instr) : asksRange i := by
  cases i with
  | rdI8 reg => exact asksRange_of_single rfl
  | rdI16 reg => exact asksRange_of_single rfl
  | rdI32 reg => exact asksRange_of_single rfl
  | rdF32 reg => exact asksRange_of_single rfl
  | rdmI8 start count => exact asksRange_of_multiple .i8 rfl fun _ => rfl
  | rdmI16 start count => exact asksRange_of_multiple .i16 rfl fun _ => rfl
  | rdmI32 start count => exact asksRange_of_multiple .i32 rfl fun _ => rfl
  | rdmF32 start count => exact asksRange_of_multiple .f32 rfl fun _ => rfl
  | _ => exact asksRange_of_none rfl

theorem consecutive_registersAsked (i : Instr) : consecutive (registersAsked i) := by
  obtain ⟨start, n, h, -⟩ := asksRange_all i
  exact h ▸ consecutive_regRange n start

/-! The records of executed requests. -/

theorem execAll_cfg {l : List Instr} {s t : State} (hx : execAll l s = .next t) : t.cfg = s.cfg :=
  execAll_keeps (P := fun u => u.cfg = s.cfg)
    (fun _ _ _ _ hu hi => by
      obtain ⟨hcfg, -⟩ := exec_frame hi
      exact hcfg.trans hu)
    rfl hx

/-- The records left answer the reads asked for, in order, and each of them those of one request. -/
theorem execAll_records {l : List Instr} : ∀ {s t : State}, s.cfg.role = .server → (∀ i ∈ l, i.isRequest = true) →
    execAll l s = .next t →
    ∃ rs, t.results = s.results ++ rs ∧ rs.flatMap recordRegisters = l.flatMap registersAsked ∧
      ∀ r ∈ rs, ∃ i ∈ l, recordRegisters r = registersAsked i := by
  induction l with
  | nil =>
    intro s t _ _ hx
    cases hx
    exact ⟨[], (List.append_nil _).symm, rfl, by simp⟩
  | cons i l ih =>
    intro s t hr hreq hx
    obtain ⟨hi, hl⟩ := List.forall_mem_cons.1 hreq
    obtain ⟨u, hu, -⟩ := exec_cases i s
    obtain ⟨hcfg, -⟩ := exec_frame hu
    simp only [execAll, hu] at hx
    obtain ⟨rs, hres, hregs, hall⟩ := ih (hcfg ▸ hr) hl hx
    have hall' : ∀ r ∈ rs, ∃ j ∈ i :: l, recordRegisters r = registersAsked j := by
      intro r hmem
      obtain ⟨j, hj, he⟩ := hall r hmem
      exact ⟨j, List.mem_cons_of_mem _ hj, he⟩
    cases exec_requestCase hr hi hu with
    | record r hone hadd _ =>
      refine ⟨r :: rs, ?_, ?_, List.forall_mem_cons.2 ⟨⟨i, List.mem_cons_self, hone⟩, hall'⟩⟩
      · rw [hres, hadd, List.append_assoc]
        rfl
      · rw [List.flatMap_cons, List.flatMap_cons, hone, hregs]
    | noSlot ch bytes hpoll _ ht =>
      subst ht hpoll
      exact ⟨rs, by rw [hres, State.takeError_results], hregs, hall'⟩

theorem bufferSize_bounds {c : Config} (h : c.wf = true) : 16 ≤ c.bufferSize ∧ c.bufferSize ≤ 2 ^ 28 - 1 := by
  simp only [Config.wf, Bool.and_eq_true, decide_eq_true_eq] at h
  obtain ⟨⟨⟨hlow, htop⟩, -⟩, -⟩ := h
  exact ⟨hlow, htop⟩

/-- Settles O36: the records answer what was asked, and composition mentions what they answer. -/
theorem replyMentionsEveryRead : Obligations.ReplyMentionsEveryRead := by
  intro s t l hwf hr hempty hreq hx
  obtain ⟨rs, hres, hregs, hall⟩ := execAll_records hr hreq hx
  have hresults : t.results = rs := by rw [hres, hempty, List.nil_append]
  have hbuf : 16 ≤ t.cfg.bufferSize := by
    rw [execAll_cfg hx]
    exact (bufferSize_bounds hwf).1
  have hrun : ∀ r ∈ rs, consecutive (recordRegisters r) := by
    intro r hmem
    obtain ⟨i, -, he⟩ := hall r hmem
    exact he ▸ consecutive_registersAsked i
  rw [composedReply, hresults, composeAll_mentions hbuf t.slots hrun, hregs]

/-! The composed subframes are well-formed (30_encoding.md R79, R81). -/

/-- A reply subframe is well-formed where it fits and its registers stand in a range that does not pass the top. -/
theorem wf_of_fitsReply {bufferSize : Nat} {i : Instr} {start : U32} {n : Nat} (hfit : fitsReply bufferSize i)
    (hbuf : bufferSize < 2 ^ 32) (hregs : mentionedReads i <:+: regRange start n) (hr : rangeWf start n = true) :
    i.wf bufferSize = true := by
  obtain ⟨hrep, hlen⟩ := hfit
  have hrange : ∀ {reg : U32} {m : Nat}, (List.range m).map (regAt reg) <:+: regRange start n →
      rangeWf reg m = true := fun h => rangeWf_of_infix (regRange_eq .. ▸ h) hr
  cases i with
  | rplI8 reg v => rfl
  | rplI16 reg v => rfl
  | rplI32 reg v => rfl
  | rplF32 reg v => rfl
  | rplmI8 reg vs => exact hrange hregs
  | rplmI16 reg vs => exact hrange hregs
  | rplmI32 reg vs => exact hrange hregs
  | rplmF32 reg vs => exact hrange hregs
  | werr reg code => rfl
  | rerr reg code => rfl
  | tunS2C ch bytes =>
    rw [Laws.EncodedLength.tunS2C, Laws.bodyLength] at hlen
    have hcount : bytes.length < 2 ^ 32 := by omega
    exact decide_eq_true hcount
  | _ => cases hrep

/-- The subframes composed for well-formed requests are of the reply class and well-formed. -/
theorem composedReply_wf {s t : State} {l : List Instr} (hwf : s.cfg.wf = true) (hr : s.cfg.role = .server)
    (hempty : s.results = []) (hl : requestsWf s.cfg.bufferSize l) (hx : execAll l s = .next t) :
    ∀ i ∈ composedReply t, i.isRequest = false ∧ i.wf t.cfg.bufferSize = true := by
  intro i hi
  obtain ⟨rs, hres, -, hall⟩ := execAll_records hr (fun j hj => (hl j hj).1) hx
  have hcfg := execAll_cfg hx
  obtain ⟨hlow, htop⟩ := bufferSize_bounds (hcfg ▸ hwf)
  obtain ⟨r, hmem, slots, hone⟩ := mem_composeAll hi
  obtain ⟨hrep, hlen⟩ := composeOne_fits hlow htop slots r i hone
  obtain ⟨j, hj, hregs⟩ := hall r (by rwa [hres, hempty, List.nil_append] at hmem)
  obtain ⟨start, n, hasked, hrange⟩ := asksRange_all j
  have hwhole := composeOne_mentions hlow slots (hregs ▸ consecutive_registersAsked j)
  have hpart : mentionedReads i <:+: regRange start n := by
    rw [← hasked, ← hregs, ← hwhole, List.flatMap_def]
    exact List.infix_of_mem_flatten (List.mem_map_of_mem hone)
  exact ⟨hrep, wf_of_fitsReply ⟨hrep, hlen⟩ (by omega) hpart (hrange _ (hl j hj).2)⟩

/-- Settles O39: what was packed is a first part of the composed subframes, and a client decodes each of them. -/
theorem replyPayloadParsesBack : Obligations.ReplyPayloadParsesBack := by
  intro s t l hwf hr hempty hl hx
  have hcomposed := composedReply_wf hwf hr hempty hl hx
  obtain ⟨k, hk, hpack, -, hmax⟩ := replyPayloadIsLongestFit t.cfg.bufferSize (composedReply t)
  refine ⟨k, hk, ?_, fun hfit => ?_⟩
  · have htaken : ∀ i ∈ (composedReply t).take k, i.isRequest = false ∧ i.wf t.cfg.bufferSize = true :=
      fun i hi => hcomposed i (List.mem_of_mem_take hi)
    have hdecodes := decodesTo_payloadOf (fun i hi => (htaken i hi).2) []
    rw [List.append_nil] at hdecodes
    rw [hpack]
    exact walkPayload_of_decodesTo (fun i hi => by simp [Role.takes, (htaken i hi).1]) hdecodes
      fun fuel _ => walk_nil ..
  · by_contra hne
    have hcut := hmax (by omega)
    have hall : (payloadOf ((composedReply t).take (k + 1))).length ≤ (payloadOf (composedReply t)).length :=
      ((List.take_sublist ..).flatMap encode).length_le
    omega

end Sys2Proof.Machine
end

section
/-! PROOF. What a subframe does at the end that takes it and at the end that does not (43_register_rpc.md R170 to R175,
30_encoding.md R82). -/

namespace Sys2Proof.Machine

open Sys2Proof

/-! The two classes of subframes. -/

theorem asRequest_server {run : State → State} {s t : State} (hr : s.cfg.role = .server) (h : run s = t) :
    asRequest run s = .next t := by
  simp only [asRequest, hr, h]

theorem asRequest_client {run : State → State} {s : State} (hr : s.cfg.role = .client) :
    asRequest run s = .next (s.takeError .malformedSubframe) := by
  simp only [asRequest, hr]

theorem asReply_server {m : Mentions} {s : State} (hr : s.cfg.role = .server) :
    asReply m s = .next (s.takeError .malformedSubframe) := by
  simp only [asReply, hr]

theorem asReply_client {m : Mentions} {s : State} (hr : s.cfg.role = .client) :
    asReply m s = .next (s.addMentions m) := by
  simp only [asReply, hr]

/-- What a reply subframe adds to the entries a client collects (45_client.md R233); a request adds nothing. -/
def contributes : Instr → Mentions
  | .rplI8 reg v => readsOf [(reg, .i8 v)]
  | .rplI16 reg v => readsOf [(reg, .i16 v)]
  | .rplI32 reg v => readsOf [(reg, .i32 v)]
  | .rplF32 reg v => readsOf [(reg, .f32 v)]
  | .rplmI8 start vs => readsOf (withRegs start (vs.map .i8))
  | .rplmI16 start vs => readsOf (withRegs start (vs.map .i16))
  | .rplmI32 start vs => readsOf (withRegs start (vs.map .i32))
  | .rplmF32 start vs => readsOf (withRegs start (vs.map .f32))
  | .werr reg code => { reads := [], writeErrors := [(reg, code)], tunnel := [] }
  | .rerr reg code => { reads := [.err reg code], writeErrors := [], tunnel := [] }
  | .tunS2C ch bytes => { reads := [], writeErrors := [], tunnel := [(ch, bytes)] }
  | _ => Mentions.empty

theorem exec_of_request {i : Instr} (hreq : i.isRequest = true) : ∃ run, ∀ s, exec i s = asRequest run s := by
  cases i with
  | wrI8 | wrI16 | wrI32 | wrF32 | wrmI8 | wrmI16 | wrmI32 | wrmF32 => exact ⟨_, fun _ => rfl⟩
  | rdI8 | rdI16 | rdI32 | rdF32 | rdmI8 | rdmI16 | rdmI32 | rdmF32 => exact ⟨_, fun _ => rfl⟩
  | tunC2S ch bytes => exact ⟨receiveTunnel ch bytes, fun _ => rfl⟩
  | _ => cases hreq

theorem exec_of_reply {i : Instr} (hrep : i.isRequest = false) (s : State) : exec i s = asReply (contributes i) s := by
  cases i with
  | rplI8 | rplI16 | rplI32 | rplF32 | rplmI8 | rplmI16 | rplmI32 | rplmF32 | werr | rerr | tunS2C => rfl
  | _ => cases hrep

/-! The statements. -/

/-- Settles O25: each class has one meaning at the end that does not take it. -/
theorem wrongDirectionIsMalformed : Obligations.WrongDirectionIsMalformed := by
  refine fun i s => ⟨fun hr hrep => ?_, fun hr hreq => ?_⟩
  · rw [exec_of_reply hrep, asReply_server hr, State.takeError_malformed_server s hr]
  · obtain ⟨run, hrun⟩ := exec_of_request hreq
    rw [hrun, asRequest_client hr, State.takeError_malformed_client s hr]

/-- Settles O19: a write-single is one call, and its record holds at most one failure. -/
theorem writeSingleRuns : Obligations.WriteSingleRuns := by
  refine ⟨fun reg code n slots => ?_, fun s reg hr => ?_⟩
  · by_cases hcode : code = 0#32
    · simp only [if_pos hcode, composeOne, List.map_nil]
    · simp only [if_neg hcode, composeOne, List.map_cons, List.map_nil]
  · have run := fun v => asRequest_server hr (writeSingle_eq reg v s)
    exact ⟨fun v => run (.i8 v), fun v => run (.i16 v), fun v => run (.i32 v), fun v => run (.f32 v)⟩

/-- Settles O20: the loop of writes, and registers that stay below the top. -/
theorem writeMultipleRuns : Obligations.WriteMultipleRuns := by
  refine ⟨fun start i n htop hi => regAt_toNat start i (by omega), fun s start hr => ?_⟩
  have run := fun vs => asRequest_server hr (writeMultiple_eq start vs s)
  exact ⟨fun vs => run (vs.map .i8), fun vs => run (vs.map .i16), fun vs => run (vs.map .i32),
    fun vs => run (vs.map .f32)⟩

/-- Settles O21: a read-single is one call, its answer cut to the width of the representation. -/
theorem readSingleRuns : Obligations.ReadSingleRuns := by
  intro s reg hr
  have run := fun rep => asRequest_server hr (readSingle_eq rep reg s)
  exact ⟨run .i8, run .i16, run .i32, run .f32⟩

/-- Settles O22: the loop of reads. -/
theorem readMultipleRuns : Obligations.ReadMultipleRuns := by
  intro s start count hr
  have run := fun rep => asRequest_server hr (readMultiple_eq rep start count s)
  exact ⟨run .i8, run .i16, run .i32, run .f32⟩

end Sys2Proof.Machine
end

section
/-! PROOF. The answers of the Server on their way to the client (43_register_rpc.md R174, 42_dispatcher.md R154,
45_client.md R233): records, composed subframes and collected entries hold the same values and codes in the same order. -/

namespace Sys2Proof.Machine

open Sys2Proof

/-! Collecting at a client. -/

/-- The entries of `m`, and after them those of `n`. -/
def Mentions.add (m n : Mentions) : Mentions :=
  { reads := m.reads ++ n.reads, writeErrors := m.writeErrors ++ n.writeErrors, tunnel := m.tunnel ++ n.tunnel }

@[simp] theorem Mentions.empty_add (m : Mentions) : Mentions.empty.add m = m := rfl

@[simp] theorem Mentions.add_empty (m : Mentions) : m.add Mentions.empty = m := by
  simp [Mentions.add, Mentions.empty]

theorem Mentions.add_assoc (m n k : Mentions) : (m.add n).add k = m.add (n.add k) := by
  simp [Mentions.add]

theorem State.addMentions_mentions_eq_add (s : State) (m : Mentions) :
    (s.addMentions m).mentions = s.mentions.add m := rfl

theorem State.addMentions_empty (s : State) : s.addMentions Mentions.empty = s := by
  simp [State.addMentions, Mentions.empty]

theorem State.addMentions_addMentions (s : State) (m n : Mentions) :
    (s.addMentions m).addMentions n = s.addMentions (m.add n) := by
  simp [State.addMentions, Mentions.add]

/-- What a list of reply subframes adds to the entries a client collects. -/
def collected : List Instr → Mentions
  | [] => Mentions.empty
  | i :: l => (contributes i).add (collected l)

theorem collected_append (l r : List Instr) : collected (l ++ r) = (collected l).add (collected r) := by
  induction l with
  | nil => rfl
  | cons i l ih => simp only [List.cons_append, collected, ih, Mentions.add_assoc]

/-- A client that executes reply subframes collects what each adds, in order, and nothing else changes. -/
theorem execAll_replies {l : List Instr} : ∀ {c : State}, c.cfg.role = .client → (∀ i ∈ l, i.isRequest = false) →
    execAll l c = .next (c.addMentions (collected l)) := by
  induction l with
  | nil =>
    intro c _ _
    rw [collected, State.addMentions_empty, execAll]
  | cons i l ih =>
    intro c hr hrep
    obtain ⟨hi, hl⟩ := List.forall_mem_cons.1 hrep
    have hc : (c.addMentions (contributes i)).cfg.role = .client := hr
    simp only [execAll, exec_of_reply hi, asReply_client hr, ih hc hl, State.addMentions_addMentions, collected]

/-! A run of values of one representation. -/

theorem readsOf_append (a b : List (U32 × Value)) : readsOf (a ++ b) = (readsOf a).add (readsOf b) := by
  simp [readsOf, Mentions.add]

theorem Value.ofBits_bits (v : Value) : Value.ofBits v.rep v.bits = v := by
  cases v <;> simp [Value.rep, Value.bits, Value.ofBits]

theorem contributes_rplOf (reg : U32) (v : Value) : contributes (rplOf reg v) = readsOf [(reg, v)] := by
  cases v <;> rfl

/-- The values of a reply-multiple subframe are those it was made of, where they have its representation. -/
theorem contributes_rplmOf {rep : Rep} {vs : List Value} (h : ∀ v ∈ vs, v.rep = rep) (start : U32) :
    contributes (rplmOf rep start vs) = readsOf (withRegs start vs) := by
  have hcarried : contributes (rplmOf rep start vs) =
      readsOf (withRegs start (vs.map fun v => Value.ofBits rep v.bits)) := by
    cases rep with
    | i8 | i16 | i32 | f32 =>
      rw [rplmOf, contributes, List.map_map]
      rfl
  have hsame : (vs.map fun v => Value.ofBits rep v.bits) = vs :=
    (List.map_congr_left fun v hv => h v hv ▸ Value.ofBits_bits v).trans (List.map_id vs)
  rw [hcarried, hsame]

/-- Values paired with consecutive registers are those of a multiple form. -/
theorem withRegs_of_consecutive {run : List (U32 × Value)} : ∀ {reg v},
    consecutive (((reg, v) :: run).map Prod.fst) → withRegs reg (v :: run.map Prod.snd) = (reg, v) :: run := by
  induction run with
  | nil => exact fun _ => rfl
  | cons e run ih =>
    intro reg v h
    obtain ⟨next, w⟩ := e
    obtain ⟨rfl, hrest⟩ := List.isChain_cons_cons.1 h
    exact congrArg ((reg, v) :: ·) (ih hrest)

theorem contributes_rplmOf_run {rep : Rep} {run : List (U32 × Value)} {reg : U32} {v : Value}
    (hregs : consecutive (((reg, v) :: run).map Prod.fst)) (hrep : ∀ e ∈ (reg, v) :: run, e.2.rep = rep) :
    contributes (rplmOf rep reg (v :: run.map Prod.snd)) = readsOf ((reg, v) :: run) := by
  have hvalues : ∀ w ∈ ((reg, v) :: run).map Prod.snd, w.rep = rep := List.forall_mem_map.2 hrep
  exact (contributes_rplmOf hvalues reg).trans (congrArg readsOf (withRegs_of_consecutive hregs))

/-- A run of consecutive registers is collected whole, however it is cut (42_dispatcher.md R154). -/
theorem splitRun_collected {bufferSize : Nat} (h : 16 ≤ bufferSize) (rep : Rep) (fuel : Nat) :
    ∀ run : List (U32 × Value), run.length ≤ fuel → consecutive (run.map Prod.fst) → (∀ e ∈ run, e.2.rep = rep) →
      collected (splitRun bufferSize rep fuel run) = readsOf run := by
  induction fuel with
  | zero =>
    intro run hlen _ _
    rw [List.length_eq_zero_iff.1 (Nat.le_zero.1 hlen)]
    rfl
  | succ fuel ih =>
    intro run hlen hrun hrep
    match run with
    | [] => rfl
    | (reg, v) :: more =>
      obtain ⟨k, -, -, hsplit⟩ := splitRun_cons h rep fuel reg v more
      have hparts : (reg, v) :: more = ((reg, v) :: more.take k) ++ more.drop k := by
        rw [List.cons_append, List.take_append_drop]
      rw [hparts, List.map_append] at hrun
      rw [hparts] at hrep
      obtain ⟨hfirst, hrest⟩ := List.forall_mem_append.1 hrep
      have hshort : (more.drop k).length ≤ fuel := by
        rw [List.length_cons] at hlen
        rw [List.length_drop]
        omega
      rw [hsplit, collected, ih _ hshort hrun.right_of_append hrest,
        contributes_rplmOf_run hrun.left_of_append hfirst, ← readsOf_append, ← hparts]

/-! One result record. -/

/-- The read entries that answers of the Server stand for. -/
def answersOf (entries : List (U32 × ReadAnswer)) : Mentions :=
  { reads := entries.map entryOf, writeErrors := [], tunnel := [] }

/-- The run collected so far and the answers after it are collected whole, where their registers are consecutive. -/
theorem composeReads_collected {bufferSize : Nat} (h : 16 ≤ bufferSize) (rep : Rep)
    (entries : List (U32 × ReadAnswer)) : ∀ run : List (U32 × Value),
    consecutive (run.map Prod.fst ++ entries.map Prod.fst) → (∀ e ∈ run, e.2.rep = rep) →
      (∀ e ∈ entries, entryOk rep e = true) →
      collected (composeReads bufferSize rep run entries) = (readsOf run).add (answersOf entries) := by
  induction entries with
  | nil =>
    intro run hrun hrep _
    rw [List.map_nil, List.append_nil] at hrun
    exact (splitRun_collected h rep _ run le_rfl hrun hrep).trans (Mentions.add_empty _).symm
  | cons e rest ih =>
    intro run hrun hrep hok
    obtain ⟨he, hrest⟩ := List.forall_mem_cons.1 hok
    match e with
    | (reg, .ok v) =>
      have hv : v.rep = rep := of_decide_eq_true he
      have hmoved : run.map Prod.fst ++ ((reg, ReadAnswer.ok v) :: rest).map Prod.fst =
          (run ++ [(reg, v)]).map Prod.fst ++ rest.map Prod.fst := by simp
      have hgrown : ∀ e ∈ run ++ [(reg, v)], e.2.rep = rep :=
        List.forall_mem_append.2 ⟨hrep, List.forall_mem_singleton.2 hv⟩
      rw [composeReads, ih _ (hmoved ▸ hrun) hgrown hrest, readsOf_append, Mentions.add_assoc]
      rfl
    | (reg, .err code) =>
      have hafter : consecutive (rest.map Prod.fst) := hrun.right_of_append.tail
      rw [composeReads, collected_append, splitRun_collected h rep _ run le_rfl hrun.left_of_append hrep, collected,
        ih [] hafter (List.forall_mem_nil _) hrest]
      rfl

/-- The answers of a read record have the representation asked for (43_register_rpc.md R174). -/
def answersOk : ResultRec → Prop
  | .wres _ => True
  | .rres _ rep entries => ∀ e ∈ entries, entryOk rep e = true
  | .tres _ _ => True

theorem collected_composeRead (entries : List (U32 × ReadAnswer)) :
    collected (entries.map composeRead) = answersOf entries := by
  induction entries with
  | nil => rfl
  | cons e rest ih =>
    match e with
    | (reg, .ok v) => rw [List.map_cons, collected, ih, composeRead, contributes_rplOf]; rfl
    | (reg, .err code) => rw [List.map_cons, collected, ih]; rfl

theorem collected_werr (errors : List (U32 × U32)) :
    collected (errors.map fun e => .werr e.1 e.2) = { reads := [], writeErrors := errors, tunnel := [] } := by
  induction errors with
  | nil => rfl
  | cons e rest ih => rw [List.map_cons, collected, ih]; rfl

/-- The subframes of a record carry its values and codes. -/
theorem composeOne_collected {bufferSize : Nat} (h : 16 ≤ bufferSize) (slots : List Slot) {r : ResultRec}
    (hr : consecutive (recordRegisters r)) (hok : answersOk r) :
    (collected (composeOne bufferSize slots r).1).reads = readsIn r ∧
      (collected (composeOne bufferSize slots r).1).writeErrors = errorsIn r := by
  match r with
  | .wres errors => simp only [composeOne, collected_werr, readsIn, errorsIn, and_self]
  | .rres false rep entries => simp only [composeOne, collected_composeRead, answersOf, readsIn, errorsIn, and_self]
  | .rres true rep entries =>
    have hall : collected (composeReads bufferSize rep [] entries) = answersOf entries :=
      composeReads_collected h rep entries [] hr (List.forall_mem_nil _) hok
    simp only [composeOne, hall, answersOf, readsIn, errorsIn, and_self]
  | .tres ch i => exact ⟨rfl, rfl⟩

/-! All result records. -/

theorem composeAll_collected {bufferSize : Nat} (h : 16 ≤ bufferSize) {rs : List ResultRec} : ∀ slots,
    (∀ r ∈ rs, consecutive (recordRegisters r)) → (∀ r ∈ rs, answersOk r) →
      (collected (composeAll bufferSize rs slots).1).reads = rs.flatMap readsIn ∧
        (collected (composeAll bufferSize rs slots).1).writeErrors = rs.flatMap errorsIn := by
  induction rs with
  | nil => exact fun _ _ _ => ⟨rfl, rfl⟩
  | cons r rs ih =>
    intro slots hrun hok
    obtain ⟨hr, hrest⟩ := List.forall_mem_cons.1 hrun
    obtain ⟨hokr, hokrest⟩ := List.forall_mem_cons.1 hok
    obtain ⟨hreads, herrors⟩ := composeOne_collected h slots hr hokr
    obtain ⟨hreads', herrors'⟩ := ih (composeOne bufferSize slots r).2 hrest hokrest
    simp only [composeAll, collected_append, Mentions.add, List.flatMap_cons, hreads, herrors, hreads', herrors',
      and_self]

theorem callRecordOk.answersOk {r : ResultRec} (h : callRecordOk r) : answersOk r := by
  match r with
  | .wres _ => trivial
  | .rres multiple rep entries =>
    obtain ⟨hall, -⟩ := Bool.and_eq_true_iff.1 (h [])
    exact List.all_eq_true.1 hall
  | .tres _ _ => trivial

theorem exec_answersOk {i : Instr} {s t : State} (h : ∀ r ∈ s.results, answersOk r) (hx : exec i s = .next t) :
    ∀ r ∈ t.results, answersOk r := by
  obtain ⟨u, hu, hcase⟩ := exec_cases i s
  cases hu.symm.trans hx
  cases hcase with
  | wrongEnd _ ht => rwa [ht, State.takeError_results]
  | calls _ _ cs r hr ht =>
    rw [ht]
    exact List.forall_mem_append.2 ⟨h, List.forall_mem_singleton.2 hr.answersOk⟩
  | poll _ ch bytes _ ht =>
    rw [ht]
    obtain ⟨-, he⟩ | ⟨j, -, he⟩ := receiveTunnel_cases ch bytes s
    · rwa [he, State.takeError_results]
    · rw [he]
      exact List.forall_mem_append.2 ⟨h, List.forall_mem_singleton.2 trivial⟩
  | mention _ m ht => rwa [ht]

/-- The composed subframes are of the reply class. -/
theorem composedReply_isReply {s : State} (h : s.cfg.wf = true) : ∀ i ∈ composedReply s, i.isRequest = false := by
  intro i hi
  obtain ⟨hlow, htop⟩ := bufferSize_bounds h
  exact (composedSubframesFit s.cfg.bufferSize s.results s.slots hlow htop i hi).1

/-- Settles O37: executing leaves records of consecutive registers with answers of their representation; composition and
the client's collecting keep their values and codes. -/
theorem replyCarriesAnswersUnchanged : Obligations.ReplyCarriesAnswersUnchanged := by
  intro s t c u l hwf hr hempty hreq hx hc hnone hu
  obtain ⟨rs, hres, -, hall⟩ := execAll_records hr hreq hx
  have hwf' : t.cfg.wf = true := execAll_cfg hx ▸ hwf
  have hrun : ∀ r ∈ t.results, consecutive (recordRegisters r) := by
    intro r hmem
    rw [hres, hempty, List.nil_append] at hmem
    obtain ⟨i, -, he⟩ := hall r hmem
    exact he ▸ consecutive_registersAsked i
  have hok : ∀ r ∈ t.results, answersOk r :=
    execAll_keeps (P := fun v => ∀ r ∈ v.results, answersOk r) (fun _ _ _ _ hv hi => exec_answersOk hv hi)
      (by simp [hempty]) hx
  cases (execAll_replies hc (composedReply_isReply hwf')).symm.trans hu
  rw [State.addMentions_mentions_eq_add, hnone, Mentions.empty_add]
  exact composeAll_collected (bufferSize_bounds hwf').1 t.slots hrun hok

end Sys2Proof.Machine
end

section
/-! PROOF. The words, the check value and the frame that the spec writes out (43_register_rpc.md R176 to R201,
44_tunnel.md R211, R212, 41_frame_codec.md R111, R113). -/

namespace Sys2Proof.Machine

open Sys2Proof

/-! The default checksum (41_frame_codec.md R110, R111), in a form in which it is computed byte by byte. -/

theorem crcBit_default (c : U16) :
    crcBit CrcParams.default.poly c = if 2 ^ 15 ≤ c.toNat then (c <<< 1) ^^^ 0x1021#16 else c <<< 1 := by
  simp only [crcBit, BitVec.msb_eq_decide, decide_eq_true_iff]
  rfl

theorem crcByte_default (c : U16) (b : Byte) :
    crcByte CrcParams.default c b = Nat.repeat (crcBit CrcParams.default.poly) 8 (c ^^^ (b.setWidth 16 <<< 8)) := rfl

theorem crc16_default (data : List Byte) :
    crc16 CrcParams.default data = data.foldl (crcByte CrcParams.default) 0xFFFF#16 :=
  BitVec.xor_zero

theorem crc16_checkValue : crc16 CrcParams.default
    [0x31#8, 0x32#8, 0x33#8, 0x34#8, 0x35#8, 0x36#8, 0x37#8, 0x38#8, 0x39#8] = 0x29B1#16 := by
  simp [crc16_default, crcByte_default, crcBit_default, Nat.repeat]

theorem encodeFrame_example : encodeFrame CrcParams.default 0#7 true 1#8 [0x18#8, 0x02#8] =
    [0x54#8, 0xAB#8, 0x80#8, 0x01#8, 0x02#8, 0x18#8, 0x02#8, 0x22#8, 0x82#8] := by
  have hhead : frameHead 0#7 true 1#8 [0x18#8, 0x02#8] =
      [0x54#8, 0xAB#8, 0x80#8, 0x01#8, 0x02#8, 0x18#8, 0x02#8] := by decide
  simp [encodeFrame, hhead, frameCrc, crcBytes, crc16_default, crcByte_default, crcBit_default, Nat.repeat]

/-- Settles O10: the words are the minimal encodings of their subframes; the check value and the frame are computed. -/
theorem workedExamples : Obligations.WorkedExamples := by
  have word : ∀ i : Instr, i.wf 64 = true → decode 64 (encode i ++ []) = .ok i [] := fun i => decodeOfEncode 64 i []
  exact ⟨word (.wrI32 300#32 0x12345678#32) rfl, word (.wrmI16 0#32 [0xBEEF#16]) rfl, word (.rdI32 128#32) rfl,
    word (.rdmI8 2#32 3#32) rfl, word (.rplF32 0#32 0x7FC00001#32) rfl, word (.rplmI16 0#32 [1#16, 0xFFFF#16]) rfl,
    word (.werr 5#32 3#32) rfl, word (.tunC2S 0#32 [0x68#8, 0x69#8]) rfl, word (.tunS2C 0#32 [0x6F#8, 0x6B#8]) rfl,
    crc16_checkValue, encodeFrame_example⟩

end Sys2Proof.Machine
end

section
/-! PROOF. The tunnel channels (44_tunnel.md R210 to R218): which slot an operation takes, what it does to that slot,
and that every other slot stays as it is. -/

namespace Sys2Proof.Machine

open Sys2Proof

/-! Finding a slot (44_tunnel.md R210). -/

/-- A slot bound to the channel is found before any free slot. -/
theorem findSlot_of_boundSlot {slots : List Slot} {ch : U32} {i : Nat} (h : boundSlot slots ch = some i) :
    findSlot slots ch = some i := by
  simp only [findSlot, h]

/-- The slot found is free or bound to the channel itself. -/
theorem chan_of_findSlot {slots : List Slot} {ch : U32} {i : Nat} {sl : Slot} (h : findSlot slots ch = some i)
    (hsl : slots[i]? = some sl) (hb : sl.bound = true) : sl.chan = ch := by
  obtain ⟨x, hx, ⟨-, hc⟩ | ⟨hfree, -⟩⟩ := findSlot_some h
  · cases hsl.symm.trans hx
    exact hc
  · cases hsl.symm.trans hx
    cases hb.symm.trans hfree

/-- Where the slot found is free, every slot below it is bound. -/
theorem bound_of_lt_findSlot {slots : List Slot} {ch : U32} {i j : Nat} {sl x : Slot} (h : findSlot slots ch = some i)
    (hsl : slots[i]? = some sl) (hfree : sl.bound = false) (hlt : j < i) (hx : slots[j]? = some x) :
    x.bound = true := by
  unfold findSlot at h
  split at h
  · next hbound =>
    cases h
    obtain ⟨y, hy, hyb, -⟩ := boundSlot_some hbound
    cases hsl.symm.trans hy
    cases hyb.symm.trans hfree
  · obtain ⟨_, -, hbelow⟩ := List.findIdx?_eq_some_iff_getElem.1 h
    obtain ⟨-, rfl⟩ := List.getElem?_eq_some_iff.1 hx
    simpa using hbelow j hlt

theorem findSlot_eq_none_iff (slots : List Slot) (ch : U32) :
    findSlot slots ch = none ↔ ∀ x ∈ slots, x.bound = true ∧ x.chan ≠ ch := by
  refine ⟨findSlot_none, fun hall => ?_⟩
  rw [Option.eq_none_iff_forall_ne_some]
  intro i hi
  obtain ⟨sl, hsl, -⟩ := findSlot_some hi
  obtain ⟨hb, hc⟩ := hall sl (List.mem_of_getElem? hsl)
  exact hc (chan_of_findSlot hi hsl hb)

/-- The slot found for a channel is no slot bound to another channel. -/
theorem ne_findSlot {slots : List Slot} {ch : U32} {i j : Nat} {sl : Slot} (hj : slots[j]? = some sl)
    (hb : sl.bound = true) (hc : sl.chan ≠ ch) (hi : findSlot slots ch = some i) : j ≠ i := by
  rintro rfl
  exact hc (chan_of_findSlot hi hj hb)

/-! Executing the client-to-server subframe (44_tunnel.md R211). -/

theorem exec_tunC2S (ch : U32) (bytes : List Byte) (s : State) :
    exec (.tunC2S ch bytes) s = asRequest (receiveTunnel ch bytes) s := rfl

/-! What the operations on a slot do to it, and to the others. -/

theorem bindAt_getElem?_ne {i j : Nat} (slots : List Slot) (ch : U32) (h : j ≠ i) :
    (bindAt slots i ch)[j]? = slots[j]? := by
  rw [bindAt_getElem?, if_neg h.symm]

/-- After binding, the slot found has the channel and the FIFOs it had. -/
theorem bindAt_getElem?_findSlot {slots : List Slot} {ch : U32} {i : Nat} {sl : Slot} (hi : findSlot slots ch = some i)
    (hsl : slots[i]? = some sl) : (bindAt slots i ch)[i]? = some { sl with bound := true, chan := ch } := by
  rw [bindAt_getElem?, if_pos rfl, hsl, Option.map_some]
  by_cases hb : sl.bound = true
  · rw [if_pos hb, ← chan_of_findSlot hi hsl hb, ← hb]
  · rw [if_neg hb]

theorem pushIn_getElem?_ne {i j : Nat} (capacity : Nat) (slots : List Slot) (bytes : List Byte) (h : j ≠ i) :
    (pushIn capacity slots i bytes)[j]? = slots[j]? := by
  simp [pushIn, h.symm]

theorem pushIn_getElem?_self {slots : List Slot} {i : Nat} {sl : Slot} (capacity : Nat) (bytes : List Byte)
    (h : slots[i]? = some sl) :
    (pushIn capacity slots i bytes)[i]? = some { sl with inFifo := fifoPush capacity sl.inFifo bytes } := by
  simp [pushIn, h]

theorem popOut_getElem?_ne {i j : Nat} (slots : List Slot) (n : Nat) (h : j ≠ i) :
    (popOut slots i n)[j]? = slots[j]? := by
  simp [popOut, h.symm]

theorem popOut_getElem?_self {slots : List Slot} {i : Nat} {sl : Slot} (n : Nat) (h : slots[i]? = some sl) :
    (popOut slots i n)[i]? = some { sl with outFifo := sl.outFifo.drop n } := by
  simp [popOut, h]

theorem inFifoAt_eq {slots : List Slot} {i : Nat} {sl : Slot} (h : slots[i]? = some sl) :
    inFifoAt slots i = sl.inFifo := by
  simp only [inFifoAt, h]

theorem outFifoAt_eq {slots : List Slot} {i : Nat} {sl : Slot} (h : slots[i]? = some sl) :
    outFifoAt slots i = sl.outFifo := by
  simp only [outFifoAt, h]

/-- A change of one slot, with that slot's content written out. -/
theorem modify_slot_eq_set {slots : List Slot} {i : Nat} {sl : Slot} (f : Slot → Slot) (h : slots[i]? = some sl) :
    slots.modify i f = slots.set i (f sl) := by
  simp [List.modify_eq_set_getElem?, h]

/-- A FIFO takes exactly the bytes that are counted as queued (44_tunnel.md R217). -/
theorem fifoPush_eq_take_min (capacity : Nat) (fifo bytes : List Byte) :
    fifoPush capacity fifo bytes = fifo ++ bytes.take (min bytes.length (capacity - fifo.length)) := by
  rw [fifoPush, Nat.min_comm, ← List.take_eq_take_min]

/-! The application's operations (44_tunnel.md R215 to R217). -/

theorem appAlloc_of_slot {s : State} {ch : U32} {i : Nat} (h : findSlot s.slots ch = some i) :
    appAlloc ch s = ({ s with slots := bindAt s.slots i ch } : State).emit (.appAlloc true) := by
  simp only [appAlloc, bindSlot, h]

theorem appAlloc_of_no_slot {s : State} {ch : U32} (h : findSlot s.slots ch = none) :
    appAlloc ch s = s.emit (.appAlloc false) := by
  simp only [appAlloc, bindSlot, h]

theorem appRead_of_bound {s : State} {ch : U32} {i : Nat} {sl : Slot} (h : boundSlot s.slots ch = some i)
    (hsl : s.slots[i]? = some sl) (n : Nat) :
    appRead ch n s =
      ({ s with slots := s.slots.set i { sl with inFifo := sl.inFifo.drop n } } : State).emit
        (.appRead (some (sl.inFifo.take n))) := by
  simp only [appRead, h, inFifoAt_eq hsl, modify_slot_eq_set _ hsl]

theorem appRead_of_unbound {s : State} {ch : U32} (h : boundSlot s.slots ch = none) (n : Nat) :
    appRead ch n s = s.emit (.appRead none) := by
  simp only [appRead, h]

theorem appWrite_of_bound {s : State} {ch : U32} {i : Nat} {sl : Slot} (h : boundSlot s.slots ch = some i)
    (hsl : s.slots[i]? = some sl) (bytes : List Byte) :
    appWrite ch bytes s =
      ({ s with
          slots := s.slots.set i
            { sl with
              outFifo := sl.outFifo ++
                bytes.take (min bytes.length (s.cfg.tunnelCapacity - sl.outFifo.length)) } } : State).emit
        (.appWrite (some (min bytes.length (s.cfg.tunnelCapacity - sl.outFifo.length)))) := by
  simp only [appWrite, h, outFifoAt_eq hsl, modify_slot_eq_set _ hsl, fifoPush_eq_take_min]

theorem appWrite_of_unbound {s : State} {ch : U32} (h : boundSlot s.slots ch = none) (bytes : List Byte) :
    appWrite ch bytes s = s.emit (.appWrite none) := by
  simp only [appWrite, h]

/-! An operation of one channel and the slot of another (44_tunnel.md R218). -/

section OtherChannel

variable {s : State} {ch : U32} {j : Nat} {sl : Slot}

theorem appAlloc_keeps_other (hj : s.slots[j]? = some sl) (hb : sl.bound = true) (hc : sl.chan ≠ ch) :
    (appAlloc ch s).slots[j]? = some sl := by
  cases hi : findSlot s.slots ch with
  | none => rwa [appAlloc_of_no_slot hi]
  | some i =>
    rw [appAlloc_of_slot hi]
    exact (bindAt_getElem?_ne _ ch (ne_findSlot hj hb hc hi)).trans hj

theorem appRead_keeps_other (hj : s.slots[j]? = some sl) (hb : sl.bound = true) (hc : sl.chan ≠ ch) (n : Nat) :
    (appRead ch n s).slots[j]? = some sl := by
  cases hi : boundSlot s.slots ch with
  | none => rwa [appRead_of_unbound hi]
  | some i =>
    obtain ⟨x, hx, -⟩ := boundSlot_some hi
    have hne := ne_findSlot hj hb hc (findSlot_of_boundSlot hi)
    rw [appRead_of_bound hi hx]
    exact (List.getElem?_set_ne hne.symm).trans hj

theorem appWrite_keeps_other (hj : s.slots[j]? = some sl) (hb : sl.bound = true) (hc : sl.chan ≠ ch)
    (bytes : List Byte) : (appWrite ch bytes s).slots[j]? = some sl := by
  cases hi : boundSlot s.slots ch with
  | none => rwa [appWrite_of_unbound hi]
  | some i =>
    obtain ⟨x, hx, -⟩ := boundSlot_some hi
    have hne := ne_findSlot hj hb hc (findSlot_of_boundSlot hi)
    rw [appWrite_of_bound hi hx]
    exact (List.getElem?_set_ne hne.symm).trans hj

theorem receiveTunnel_keeps_other (hj : s.slots[j]? = some sl) (hb : sl.bound = true) (hc : sl.chan ≠ ch)
    (bytes : List Byte) : (receiveTunnel ch bytes s).slots[j]? = some sl := by
  obtain ⟨-, hrun⟩ | ⟨i, hi, hrun⟩ := receiveTunnel_cases ch bytes s
  · rwa [hrun, State.takeError_slots]
  · have hne := ne_findSlot hj hb hc hi
    rw [hrun]
    exact (pushIn_getElem?_ne _ _ bytes hne).trans ((bindAt_getElem?_ne _ ch hne).trans hj)

/-- At a client the subframe is malformed and touches no slot either. -/
theorem exec_tunC2S_keeps_other {t : State} {bytes : List Byte} (hj : s.slots[j]? = some sl) (hb : sl.bound = true)
    (hc : sl.chan ≠ ch) (hx : exec (.tunC2S ch bytes) s = .next t) : t.slots[j]? = some sl := by
  rw [exec_tunC2S] at hx
  cases hr : s.cfg.role with
  | server =>
    cases (asRequest_server hr rfl).symm.trans hx
    exact receiveTunnel_keeps_other hj hb hc bytes
  | client =>
    cases (asRequest_client hr).symm.trans hx
    rwa [State.takeError_slots]

end OtherChannel

/-! The server-to-client subframe (44_tunnel.md R213). -/

/-- At least 9 bytes fit: the tag, a channel of at most five bytes and a count of one byte stand before them. -/
theorem nine_le_tunnelFit {bufferSize : Nat} (h : 16 ≤ bufferSize) (ch : U32) : 9 ≤ tunnelFit bufferSize ch := by
  by_contra hlt
  have hno := greatest_max _ bufferSize 9 (Nat.lt_of_not_le hlt) (by omega)
  have hch := vlen_le_five ch
  have hcount : vlen (BitVec.ofNat 32 9) = 1 := by decide
  rw [hcount] at hno
  exact of_decide_eq_false hno (by omega)

/-- One byte more than the fit does not fit, also where the fit is bounded by `BUFFER_SIZE` itself. -/
theorem lt_of_tunnelFit_succ (bufferSize : Nat) (ch : U32) :
    bufferSize <
      1 + vlen ch + vlen (BitVec.ofNat 32 (tunnelFit bufferSize ch + 1)) + (tunnelFit bufferSize ch + 1) := by
  rcases Nat.lt_or_ge (tunnelFit bufferSize ch) bufferSize with hlt | hge
  · have hno := greatest_max _ bufferSize (tunnelFit bufferSize ch + 1) (Nat.lt_succ_self _) hlt
    exact Nat.lt_of_not_le (of_decide_eq_false hno)
  · omega

/-! The statements. -/

/-- Settles O42: the two cases of a slot found, and none. -/
theorem findSlotPrefersBound : Obligations.FindSlotPrefersBound := by
  refine fun slots ch => ⟨fun i hi => ?_, findSlot_eq_none_iff slots ch⟩
  obtain ⟨sl, hsl, hcase⟩ := findSlot_some hi
  exact ⟨sl, hsl, hcase.imp_right fun ⟨hfree, hnone⟩ =>
    ⟨hfree, hnone, fun j x hlt hx => bound_of_lt_findSlot hi hsl hfree hlt hx⟩⟩

/-- Settles O24: the slot is bound and then takes the bytes. -/
theorem tunnelPollRuns : Obligations.TunnelPollRuns := by
  intro s ch bytes hr
  have hrun := (exec_tunC2S ch bytes s).trans (asRequest_server hr rfl)
  obtain ⟨hnone, ht⟩ | ⟨i, hi, ht⟩ := receiveTunnel_cases ch bytes s
  · refine ⟨fun i hi => ?_, fun _ => ?_⟩
    · cases hnone.symm.trans hi
    · rw [hrun, ht, State.takeError_malformed_server s hr]
  · refine ⟨fun k hk => ?_, fun hnone => ?_⟩
    · cases hi.symm.trans hk
      refine ⟨_, hrun.trans (congrArg _ ht), fun j hj => ?_, fun sl hsl => ?_⟩
      · exact (pushIn_getElem?_ne _ _ bytes hj).trans (bindAt_getElem?_ne _ ch hj)
      · exact pushIn_getElem?_self _ bytes (bindAt_getElem?_findSlot hi hsl)
    · cases hi.symm.trans hnone

/-- Settles O43, one clause for each operation and each refusal. -/
theorem tunnelApplicationOperations : Obligations.TunnelApplicationOperations := by
  refine fun s ch => ⟨fun i hi => ?_, fun hnone => ?_, fun i sl hi hsl => ⟨fun n => ?_, fun bytes => ?_⟩,
    fun hnone => ⟨fun n => ?_, fun bytes => ?_⟩⟩
  · exact ⟨_, congrArg _ (appAlloc_of_slot hi), fun j hj => bindAt_getElem?_ne _ ch hj,
      fun sl hsl => bindAt_getElem?_findSlot hi hsl⟩
  · exact congrArg _ (appAlloc_of_no_slot hnone)
  · exact congrArg _ (appRead_of_bound hi hsl n)
  · exact congrArg _ (appWrite_of_bound hi hsl bytes)
  · exact congrArg _ (appRead_of_unbound hnone n)
  · exact congrArg _ (appWrite_of_unbound hnone bytes)

/-- Settles O40: what is taken is the fit, or all where there is less. -/
theorem serverToClientTakesWhatFits : Obligations.ServerToClientTakesWhatFits := by
  intro bufferSize ch i slots sl h htop hsl
  have hnine := nine_le_tunnelFit h ch
  refine ⟨min sl.outFifo.length (tunnelFit bufferSize ch), _, ?_, Nat.min_le_left .., by omega, ?_, fun hmore => ?_,
    popOut_getElem?_self _ hsl, fun j hj => popOut_getElem?_ne _ _ hj⟩
  · rw [serverToClient, outFifoAt_eq hsl]
  · obtain ⟨-, hfit⟩ := tunS2C_fits h htop (ch := ch)
      ((List.length_take_le _ sl.outFifo).trans (Nat.min_le_right _ (tunnelFit bufferSize ch)))
    exact hfit
  · have hfit : min sl.outFifo.length (tunnelFit bufferSize ch) = tunnelFit bufferSize ch := by omega
    rw [hfit] at hmore ⊢
    rw [← Nat.add_one_le_iff] at hmore
    rw [Laws.EncodedLength.tunS2C, Laws.bodyLength, List.length_take_of_le hmore]
    have hover := lt_of_tunnelFit_succ bufferSize ch
    omega

/-- Settles O44, one case for each operation; composing takes bytes from the channel's own slot. -/
theorem channelsDoNotInterfere : Obligations.ChannelsDoNotInterfere := by
  refine fun s ch j sl hj hb hc => ⟨fun t hop => ?_, fun i bufferSize hi => ?_⟩
  · rcases hop with halloc | ⟨n, hread⟩ | ⟨bytes, hwrite⟩ | ⟨bytes, hpoll⟩
    · cases halloc
      exact appAlloc_keeps_other hj hb hc
    · cases hread
      exact appRead_keeps_other hj hb hc n
    · cases hwrite
      exact appWrite_keeps_other hj hb hc bytes
    · exact exec_tunC2S_keeps_other hj hb hc hpoll
  · exact (popOut_getElem?_ne _ _ (ne_findSlot hj hb hc (findSlot_of_boundSlot hi))).trans hj

end Sys2Proof.Machine
end

section
/-! PROOF. The coverage check of a reply (45_client.md R234): its loop entry by entry, its two halves, and the result it
resolves the request with (R235, R236). -/

namespace Sys2Proof.Machine

open Sys2Proof

/-! The loop. -/

/-- Both kinds of entry look for the first read they answer. -/
theorem matchEntry_eq_removeFirst (e : ReadEntry) :
    ∃ p : U32 × Rep → Bool, (∀ x, p x = true ↔ answersRead e x) ∧ ∀ l, matchEntry l e = removeFirst p l := by
  cases e with
  | val reg v => exact ⟨fun x => decide (x = (reg, v.rep)), fun _ => decide_eq_true_iff, fun _ => rfl⟩
  | err reg code => exact ⟨fun x => decide (x.1 = reg), fun _ => decide_eq_true_iff, fun _ => rfl⟩

section Loop

variable {e : ReadEntry} {a b l : List (U32 × Rep)} {x : U32 × Rep}

theorem matchEntry_of_first (hx : answersRead e x) (ha : ∀ y ∈ a, ¬answersRead e y) :
    matchEntry (a ++ x :: b) e = some (a ++ b) := by
  obtain ⟨p, hp, heq⟩ := matchEntry_eq_removeFirst e
  have hbefore : ∀ y ∈ a, ¬p y = true := fun y hy => mt (hp y).1 (ha y hy)
  rw [heq, removeFirst, if_pos (by simp [(hp x).2 hx]), List.eraseP_append_right _ hbefore,
    List.eraseP_cons_of_pos ((hp x).2 hx)]

theorem matchEntry_of_none (hl : ∀ y ∈ l, ¬answersRead e y) : matchEntry l e = none := by
  obtain ⟨p, hp, heq⟩ := matchEntry_eq_removeFirst e
  have hnone : ¬l.any p = true := by
    rw [List.any_eq_true]
    rintro ⟨y, hy, hpy⟩
    exact hl y hy ((hp y).1 hpy)
  rw [heq, removeFirst, if_neg hnone]

theorem matchReads_of_first (more : List ReadEntry) (hx : answersRead e x) (ha : ∀ y ∈ a, ¬answersRead e y) :
    matchReads (e :: more) (a ++ x :: b) = matchReads more (a ++ b) := by
  simp only [matchReads, matchEntry_of_first hx ha]

theorem matchReads_of_none (more : List ReadEntry) (hl : ∀ y ∈ l, ¬answersRead e y) :
    (matchReads (e :: more) l).1 = true := by
  simp only [matchReads, matchEntry_of_none hl]

end Loop

/-- Entries that answer the reads one by one, in order, leave no extra and nothing unmatched. -/
theorem matchReads_of_answers {entries : List ReadEntry} {asked : List (U32 × Rep)}
    (h : List.Forall₂ answersRead entries asked) : matchReads entries asked = (false, []) := by
  induction h with
  | nil => rfl
  | cons hx _ ih => exact (matchReads_of_first (a := []) _ hx (List.forall_mem_nil _)).trans ih

/-! Values only: the multiset match. -/

/-- The read that a value answers: its register with its representation. -/
def readOf (e : U32 × Value) : U32 × Rep :=
  (e.1, e.2.rep)

theorem answersRead_val_iff {e : U32 × Value} {x : U32 × Rep} : answersRead (.val e.1 e.2) x ↔ x = readOf e := Iff.rfl

/-- Values that are not among the reads asked for leave an extra; others leave none, and the reads they answer are with
those left unmatched all that were asked for. -/
theorem matchReads_values (entries : List (U32 × Value)) : ∀ asked : List (U32 × Rep),
    let r := matchReads (entries.map fun e => .val e.1 e.2) asked
    (r.1 = true ∧ ¬(entries.map readOf).Subperm asked) ∨
      (r.1 = false ∧ (entries.map readOf ++ r.2).Perm asked) := by
  induction entries with
  | nil => exact fun asked => .inr ⟨rfl, .refl asked⟩
  | cons e rest ih =>
    intro asked
    by_cases hmem : readOf e ∈ asked
    · obtain ⟨a, b, rfl, ha⟩ := List.eq_append_cons_of_mem hmem
      have hfirst : ∀ y ∈ a, ¬answersRead (.val e.1 e.2) y := fun y hy hans =>
        ha (answersRead_val_iff.1 hans ▸ hy)
      simp only [List.map_cons, matchReads_of_first _ (answersRead_val_iff.2 rfl) hfirst,
        List.perm_middle.subperm_left, List.subperm_cons, List.cons_append]
      exact (ih (a ++ b)).imp_right fun ⟨hextra, hperm⟩ =>
        ⟨hextra, (hperm.cons (readOf e)).trans List.perm_middle.symm⟩
    · have hnone : ∀ y ∈ asked, ¬answersRead (.val e.1 e.2) y := fun y hy hans =>
        hmem (answersRead_val_iff.1 hans ▸ hy)
      exact .inl ⟨matchReads_of_none _ hnone, fun hsub => hmem (hsub.subset List.mem_cons_self)⟩

/-- The verdict on what the loop leaves, where no tunnel data is amiss. -/
def readsVerdict (r : Bool × List (U32 × Rep)) : CliStatus :=
  if r.1 then .malformed else if r.2.isEmpty then .ok else .missing

theorem readsVerdict_eq_malformed_iff (r : Bool × List (U32 × Rep)) : readsVerdict r = .malformed ↔ r.1 = true := by
  obtain ⟨extra, left⟩ := r
  cases extra <;> cases left <;> simp [readsVerdict]

theorem readsVerdict_eq_ok_iff (r : Bool × List (U32 × Rep)) : readsVerdict r = .ok ↔ r.1 = false ∧ r.2 = [] := by
  obtain ⟨extra, left⟩ := r
  cases extra <;> cases left <;> simp [readsVerdict]

theorem readsVerdict_values (entries : List (U32 × Value)) (asked : List (U32 × Rep)) :
    let verdict := readsVerdict (matchReads (entries.map fun e => .val e.1 e.2) asked)
    (verdict = .ok ↔ (entries.map readOf).Perm asked) ∧
      (verdict = .malformed ↔ ¬(entries.map readOf).Subperm asked) := by
  simp only [readsVerdict_eq_malformed_iff, readsVerdict_eq_ok_iff]
  obtain ⟨hextra, hnot⟩ | ⟨hextra, hperm⟩ := matchReads_values entries asked
  · simp only [hextra, Bool.true_eq_false, false_and, false_iff, true_iff]
    exact ⟨fun hp => hnot hp.subperm, hnot⟩
  · have hsub := (List.sublist_append_left _ _).subperm.trans hperm.subperm
    simp only [hextra, true_and, Bool.false_eq_true, false_iff, not_not]
    refine ⟨⟨fun hleft => ?_, fun hp => ?_⟩, hsub⟩
    · rwa [hleft, List.append_nil] at hperm
    · have hlen := (hperm.trans hp.symm).length_eq
      rw [List.length_append] at hlen
      exact List.length_eq_zero_iff.1 (by omega)

/-! The verdict, by what the loop leaves and by the tunnel data. -/

section Verdict

variable {req : CliReq} {m : Mentions}

theorem coverage_of_extra (h : (matchReads m.reads req.expectReads).1 = true) : coverage req m = .malformed := by
  simp only [coverage, h, Bool.true_or, if_true]

theorem coverage_of_noTunnel (hreq : req.expectTunnel = none) (hm : m.tunnel = []) :
    coverage req m = readsVerdict (matchReads m.reads req.expectReads) := by
  simp [coverage, readsVerdict, hreq, hm]

theorem coverage_of_tunnelAsAsked {ch : U32} {bytes : List Byte} (hreq : req.expectTunnel = some ch)
    (hm : m.tunnel = [(ch, bytes)]) : coverage req m = readsVerdict (matchReads m.reads req.expectReads) := by
  simp [coverage, readsVerdict, hreq, hm, tunnelOk]

theorem tunnelOk_iff {asked : Option U32} {given : List (U32 × List Byte)} (hne : given ≠ []) :
    tunnelOk asked given = true ↔ ∃ ch bytes, asked = some ch ∧ given = [(ch, bytes)] := by
  match asked, given with
  | none, [] => exact absurd rfl hne
  | none, _ :: _ => simp [tunnelOk]
  | some _, [] => exact absurd rfl hne
  | some ch, [(c, bytes)] => simp [tunnelOk, eq_comm]
  | some _, _ :: _ :: _ => simp [tunnelOk]

theorem coverage_of_tunnelAmiss (hne : m.tunnel ≠ [])
    (h : ∀ ch bytes, req.expectTunnel = some ch → m.tunnel ≠ [(ch, bytes)]) : coverage req m = .malformed := by
  have hbad : ¬tunnelOk req.expectTunnel m.tunnel = true := by
    rw [tunnelOk_iff hne]
    rintro ⟨ch, bytes, hreq, hm⟩
    exact h ch bytes hreq hm
  simp [coverage, hne, hbad]

theorem coverage_of_tunnelAbsent (hreq : req.expectTunnel ≠ none) (hm : m.tunnel = [])
    (hextra : (matchReads m.reads req.expectReads).1 = false) : coverage req m = .missing := by
  simp [coverage, hextra, hm, Option.isSome_iff_ne_none.2 hreq]

theorem coverage_cases (req : CliReq) (m : Mentions) :
    coverage req m = .malformed ∨ coverage req m = .missing ∨ coverage req m = .ok := by
  simp only [coverage]
  split
  · exact .inl rfl
  · split
    · exact .inr (.inl rfl)
    · exact .inr (.inr rfl)

end Verdict

/-! The statements. -/

/-- Settles O50: the loop on values alone, one round of it for any entry, and each kind of tunnel data. -/
theorem coverageMatchesAsMultiset : Obligations.CoverageMatchesAsMultiset := by
  refine ⟨fun req m entries hreq hm hreads => ?_, fun req m hreq hm => ?_, fun req m => ?_⟩
  · rw [coverage_of_noTunnel hreq hm, hreads]
    exact readsVerdict_values entries req.expectReads
  · have hcov := coverage_of_noTunnel hreq hm
    refine ⟨fun hnil hasked => ?_, fun hnil hasked => ?_, fun e more a p b hreads hasked hp ha => ?_,
      fun e more hreads hnone => coverage_of_extra (hreads ▸ matchReads_of_none more hnone)⟩
    · simp [hcov, hnil, hasked, matchReads, readsVerdict]
    · simp [hcov, hnil, hasked, matchReads, readsVerdict]
    · have hnext : coverage { req with expectReads := a ++ b } { m with reads := more } =
          readsVerdict (matchReads more (a ++ b)) := coverage_of_noTunnel hreq hm
      rw [hcov, hnext, hreads, hasked, matchReads_of_first more hp ha]
  · intro reads
    have hreads : reads = readsVerdict (matchReads m.reads req.expectReads) := coverage_of_noTunnel rfl rfl
    simp only [hreads, ne_eq, readsVerdict_eq_malformed_iff, Bool.not_eq_true]
    exact ⟨fun ch bytes => coverage_of_tunnelAsAsked, coverage_of_tunnelAmiss, fun _ _ => coverage_of_extra,
      coverage_of_tunnelAbsent⟩

/-- Settles O51: one way to resolve for each verdict. -/
theorem coverageResolvesRequest : Obligations.CoverageResolvesRequest := by
  intro s req hr
  rcases coverage_cases req s.mentions with hcov | hcov | hcov
  · refine .inl ⟨hcov, ?_⟩
    rw [conclude, if_pos hcov, State.takeError_malformed_client s hr]
  · refine .inr (.inl ⟨hcov, ?_⟩)
    rw [conclude, if_neg (by simp [hcov]), if_pos hcov]
    rfl
  · refine .inr (.inr ⟨hcov, ?_⟩)
    rw [conclude, if_neg (by simp [hcov]), if_neg (by simp [hcov])]
    rfl

end Sys2Proof.Machine
end

section
/-! PROOF. The client engine (45_client.md R220 to R237): what a reply subframe adds, issuing a request, the end of its
transmission, giving up, and the checks of a complete frame. -/

namespace Sys2Proof.Machine

open Sys2Proof

/-! What a reply subframe adds (45_client.md R233). -/

/-- A client that executes a subframe of read entries appends them to the reads. -/
theorem exec_of_reads {i : Instr} {s : State} {l : List ReadEntry} (hr : s.cfg.role = .client)
    (hrep : i.isRequest = false) (hi : contributes i = { reads := l, writeErrors := [], tunnel := [] }) :
    exec i s = .next { s with mentions := { s.mentions with reads := s.mentions.reads ++ l } } := by
  rw [exec_of_reply hrep, asReply_client hr, hi]
  simp [State.addMentions]

theorem readsOf_withRegs (start : U32) (vs : List Value) :
    readsOf (withRegs start vs) =
      { reads := vs.mapIdx fun k v => .val (regAt start k) v, writeErrors := [], tunnel := [] } := by
  simp [readsOf, withRegs_eq, List.mapIdx_eq_zipIdx_map]

/-- Settles O23: what each subframe contributes is appended. -/
theorem replySubframesAddEntries : Obligations.ReplySubframesAddEntries := by
  intro s hr reads many
  have single : ∀ {i : Instr} {e : ReadEntry}, i.isRequest = false →
      contributes i = { reads := [e], writeErrors := [], tunnel := [] } → exec i s = .next (reads [e]) :=
    exec_of_reads hr
  have multiple : ∀ {i : Instr} {start : U32} {vs : List Value}, i.isRequest = false →
      contributes i = readsOf (withRegs start vs) → exec i s = .next (many start vs) :=
    fun hrep hi => exec_of_reads hr hrep (hi.trans (readsOf_withRegs ..))
  refine ⟨fun _ _ => single rfl rfl, fun _ _ => single rfl rfl, fun _ _ => single rfl rfl, fun _ _ => single rfl rfl,
    fun _ _ => multiple rfl rfl, fun _ _ => multiple rfl rfl, fun _ _ => multiple rfl rfl,
    fun _ _ => multiple rfl rfl, fun _ _ => single rfl rfl, fun reg code => ?_, fun ch bytes => ?_⟩
  · rw [exec_of_reply rfl, asReply_client hr]
    simp [State.addMentions, contributes]
  · rw [exec_of_reply rfl, asReply_client hr]
    simp [State.addMentions, contributes]

/-! Issuing a request (45_client.md R220 to R225). -/

/-- The record's range passes the top, or it asks for more registers than a buffer holds (45_client.md R221). -/
def rangeTooFar (bufferSize : Nat) (i : Instr) : Prop :=
  ∃ (start : U32) (count : Nat),
    ((writeRange i = some (start, count) ∨ readRange i = some (start, count)) ∧ 1 ≤ count ∧
      2 ^ 32 - 1 < start.toNat + count - 1) ∨
    (readRange i = some (start, count) ∧ bufferSize < count)

theorem rangePassesTop_iff (start : U32) (count : Nat) :
    rangePassesTop start count = true ↔ 1 ≤ count ∧ 2 ^ 32 - 1 < start.toNat + count - 1 := by
  simp only [rangePassesTop, Bool.and_eq_true, decide_eq_true_eq]

theorem rangeTooFar_of_write {bufferSize : Nat} {i : Instr} {start : U32} {count : Nat}
    (hw : writeRange i = some (start, count)) (hr : readRange i = none) :
    rangeTooFar bufferSize i ↔ rangePassesTop start count = true := by
  simp [rangeTooFar, rangePassesTop_iff, hw, hr]

theorem rangeTooFar_of_read {bufferSize : Nat} {i : Instr} {start : U32} {count : Nat}
    (hw : writeRange i = none) (hr : readRange i = some (start, count)) :
    rangeTooFar bufferSize i ↔ (rangePassesTop start count || decide (bufferSize < count)) = true := by
  simp [rangeTooFar, rangePassesTop_iff, hw, hr, ← and_or_left]

theorem not_rangeTooFar {bufferSize : Nat} {i : Instr} (hw : writeRange i = none) (hr : readRange i = none) :
    ¬rangeTooFar bufferSize i := by
  simp [rangeTooFar, hw, hr]

/-- The model's test of a record. -/
theorem badRange_iff (bufferSize : Nat) (i : Instr) : badRange bufferSize i = true ↔ rangeTooFar bufferSize i := by
  cases i with
  | wrmI8 | wrmI16 | wrmI32 | wrmF32 => exact (rangeTooFar_of_write rfl rfl).symm
  | rdmI8 | rdmI16 | rdmI32 | rdmF32 => exact (rangeTooFar_of_read rfl rfl).symm
  | _ => exact iff_of_false Bool.false_ne_true (not_rangeTooFar rfl rfl)

theorem anyBadRange_iff (bufferSize : Nat) (subs : List Instr) :
    subs.any (badRange bufferSize) = true ↔ ∃ i ∈ subs, rangeTooFar bufferSize i := by
  simp only [List.any_eq_true, badRange_iff]

section Request

variable {s : State} {req : Request}

theorem requestStatus_busy (h : s.cliState ≠ .idle) : requestStatus s req = .busy := by
  rw [requestStatus, if_pos h]

theorem requestStatus_badRange (hs : s.cliState = .idle) (h : req.subs.any (badRange s.cfg.bufferSize) = true) :
    requestStatus s req = .badRange := by
  rw [requestStatus, if_neg (not_not.2 hs), if_pos h]

theorem requestStatus_rest (hs : s.cliState = .idle) (h : ¬req.subs.any (badRange s.cfg.bufferSize) = true) :
    requestStatus s req = if tunnelNotAlone req.subs then .tunnelMix
      else if s.cfg.bufferSize < (payloadOf req.subs).length then .tooLong else .ok := by
  rw [requestStatus, if_neg (not_not.2 hs), if_neg h]
  rfl

end Request

/-- Settles O47: the checks in their order, and the accepted request. -/
theorem requestIsCheckedAndSent : Obligations.RequestIsCheckedAndSent := by
  refine ⟨fun s => rfl, fun s req => ?_⟩
  intro refused rangeBad mixed payload frame
  have hrange : req.subs.any (badRange s.cfg.bufferSize) = true ↔ rangeBad := anyBadRange_iff ..
  have hmixed : tunnelNotAlone req.subs = true ↔ mixed := tunnelNotAlone_iff ..
  have hhandle : handle (.request req) s = .next (requestStep req s) := rfl
  rw [hhandle, requestStep]
  refine ⟨fun hs => ?_, fun hs hbad => ?_, fun hs hbad hmix => ?_, fun hs hbad hmix hlong => ?_,
    fun hs hbad hmix hfit => ?_⟩
  · rw [requestStatus_busy hs]
    rfl
  · rw [requestStatus_badRange hs (hrange.2 hbad)]
    rfl
  · rw [requestStatus_rest hs (mt hrange.1 hbad), if_pos (hmixed.2 hmix)]
    rfl
  · rw [requestStatus_rest hs (mt hrange.1 hbad), if_neg (mt hmixed.1 hmix), if_pos hlong]
    rfl
  · refine ⟨needsReply req.rr req.subs, needsReply_iff .., ?_⟩
    rw [requestStatus_rest hs (mt hrange.1 hbad), if_neg (mt hmixed.1 hmix), if_neg (Nat.not_lt.2 hfit)]
    simp only [State.emit, List.append_assoc, List.cons_append, List.nil_append]
    rfl

/-! The end of a transmission, and giving up (45_client.md R226, R237). -/

/-- Settles O48: the three ends of a transmission, and a timeout while a reply is awaited or not. -/
theorem sentAndTimeoutResolve : Obligations.SentAndTimeoutResolve := by
  intro s req hr bare
  have hdone : ∀ ok, handle (.txDone ok) s = .next (clientTxDone ok s) := fun ok => by
    simp only [handle, txDone, hr]
  refine ⟨fun _ hreq => ⟨hdone false, fun hexp => ?_, fun hexp => ?_⟩, fun hs => ?_, fun hs => ?_⟩
  · rw [hdone]
    simp [clientTxDone, hreq, hexp]
  · rw [hdone]
    simp only [clientTxDone, hreq, hexp, if_true, Bool.false_eq_true, if_false]
    rfl
  · simp only [handle, timeoutStep, hs, State.discardFrame_eq_of_client hr]
    rfl
  · simp only [handle, timeoutStep]
    cases hc : s.cliState with
    | await => exact absurd hc hs
    | idle | send => rfl

/-! The checks of a complete frame (45_client.md R227 to R229, R232). -/

/-- The last checksum byte of a frame runs the client's checks. -/
theorem handle_of_crc1_client {s : State} (b : Byte) (hr : s.cfg.role = .client) (hp : s.rxPhase = .crc1) :
    handle (.rxByte b) s =
      clientCheck { s with rxBytes := s.rxBytes ++ [b], rxCrc := setCrcHigh s.rxCrc b } := by
  simp only [handle, receiveByte, hr, hp, rxTake, rxCrcHigh, State.serverGoes]

section Check

variable {s : State}

theorem clientCheck_of_notAwaiting (hs : s.cliState ≠ .await) : clientCheck s = .next s.discardFrame := by
  rw [clientCheck, if_pos hs]

theorem clientCheck_of_badChecksum (hs : s.cliState = .await) (hc : ¬checksumOk s = true) :
    clientCheck s = .next (droppedFrame .checksumMismatch s) := by
  rw [clientCheck, if_neg (not_not.2 hs), if_pos (by simpa using hc)]
  exact congrArg Host.Outcome.next (State.count_discardFrame s .checksumMismatch)

theorem clientCheck_of_foreign {req : CliReq} (hs : s.cliState = .await) (hc : checksumOk s = true)
    (hq : s.cliReq = some req) (h : s.rxDst ≠ s.nodeId ∨ idByte (sourceId s.rxSrc) ≠ req.dest) :
    clientCheck s = .next (droppedFrame .wrongId s) := by
  have hforeign : notFromNode s req = true := by simpa [notFromNode] using h
  simp only [clientCheck, hs, hc, hq, hforeign, ne_eq, not_true, Bool.not_true, Bool.false_eq_true, if_false, if_true]
  exact congrArg Host.Outcome.next (State.count_discardFrame s .wrongId)

theorem takeReply_of_malformedWalk {req : CliReq} (hr : s.cfg.role = .client)
    (hw : (walkPayload .client s.cfg.bufferSize s.rxPay).1 = .malformed) :
    takeReply req s = .next (resolvedMalformed s) := by
  simp only [takeReply, hw]
  rw [State.takeError_malformed_client s.discardFrame hr, State.discardFrame_eq_of_client hr]
  rfl

end Check

/-- Settles O49: the checks in their order. -/
theorem clientChecksInOrder : Obligations.ClientChecksInOrder := by
  intro s b hr hp t sumOk
  have hsum : checksumOk t = true ↔ sumOk := checksumOk_iff t
  have hcheck : handle (.rxByte b) s = clientCheck t := handle_of_crc1_client b hr hp
  rw [hcheck]
  refine ⟨fun hs => ?_, fun hs hbad => clientCheck_of_badChecksum (s := t) hs (mt hsum.1 hbad), fun req hs hq hgood =>
    ⟨clientCheck_of_foreign (s := t) hs (hsum.2 hgood) hq, fun hdst hsrc hw => ?_⟩⟩
  · rw [clientCheck_of_notAwaiting (s := t) hs, State.discardFrame_eq_of_client (s := t) hr]
  · exact (clientCheck_eq_takeReply (s := t) hs hq (hsum.2 hgood) hdst hsrc).trans (takeReply_of_malformedWalk hr hw)

end Sys2Proof.Machine
end

section
/-! PROOF. A whole reply covers its request (42_dispatcher.md R154, R161, 45_client.md R225, R234): each record answers
the reads of one request subframe in order, or its poll, and composition and collecting keep that. -/

namespace Sys2Proof.Machine

open Sys2Proof

/-! The record of one request. -/

/-- The channel whose data a record carries. -/
def recordChannel : ResultRec → Option U32
  | .wres _ => none
  | .rres _ _ _ => none
  | .tres ch _ => some ch

/-- What a record holds of the request it was left for: of a write nothing that a reply must have, of a read one answer
for each register, of a poll the channel. -/
inductive AnswersRequest : ResultRec → Instr → Prop where
  | write {i : Instr} (errors : List (U32 × U32)) (hreads : readsAsked i = []) (hpoll : pollChannel i = none) :
      AnswersRequest (.wres errors) i
  | read {i : Instr} (multiple : Bool) {rep : Rep} {entries : List (U32 × ReadAnswer)}
      (hok : ∀ e ∈ entries, entryOk rep e = true)
      (hreads : readsAsked i = (entries.map Prod.fst).map fun reg => (reg, rep)) (hpoll : pollChannel i = none) :
      AnswersRequest (.rres multiple rep entries) i
  | poll {i : Instr} {ch : U32} (slot : Nat) (hreads : readsAsked i = []) (hpoll : pollChannel i = some ch) :
      AnswersRequest (.tres ch slot) i

section Record

variable {r : ResultRec} {i : Instr}

theorem AnswersRequest.registers (h : AnswersRequest r i) : recordRegisters r = registersAsked i := by
  cases h with
  | write _ hreads => rw [registersAsked, hreads]; rfl
  | read _ _ hreads => rw [registersAsked, hreads, map_fst_withRep]; rfl
  | poll _ hreads => rw [registersAsked, hreads]; rfl

theorem AnswersRequest.consecutive (h : AnswersRequest r i) : consecutive (recordRegisters r) :=
  h.registers ▸ consecutive_registersAsked i

theorem AnswersRequest.answersOk (h : AnswersRequest r i) : answersOk r := by
  cases h with
  | write => trivial
  | read _ hok => exact hok
  | poll => trivial

theorem AnswersRequest.channel (h : AnswersRequest r i) : recordChannel r = pollChannel i := by
  cases h with
  | write _ _ hpoll => exact hpoll.symm
  | read _ _ _ hpoll => exact hpoll.symm
  | poll _ _ hpoll => exact hpoll.symm

/-- An answer of the representation asked for stands for an entry that answers the read. -/
theorem answersRead_entryOf {rep : Rep} {e : U32 × ReadAnswer} (h : entryOk rep e = true) :
    answersRead (entryOf e) (e.1, rep) := by
  match e with
  | (reg, .ok v) =>
    have hv : v.rep = rep := of_decide_eq_true h
    rw [← hv]
    rfl
  | (reg, .err code) => rfl

theorem AnswersRequest.reads (h : AnswersRequest r i) : List.Forall₂ answersRead (readsIn r) (readsAsked i) := by
  cases h with
  | write _ hreads => rw [hreads]; exact .nil
  | read _ hok hreads =>
    rw [hreads, readsIn, List.map_map, List.forall₂_map_left_iff, List.forall₂_map_right_iff, List.forall₂_same]
    exact fun e he => answersRead_entryOf (hok e he)
  | poll _ hreads => rw [hreads]; exact .nil

end Record

/-! Executing leaves such records. -/

theorem asRequest_answers {i : Instr} {run : State → State} {s t : State} (hr : s.cfg.role = .server)
    (hx : asRequest run s = .next t) (hrun : ∃ cs r, AnswersRequest r i ∧ run s = afterCalls s cs r) :
    ∃ r, AnswersRequest r i ∧ t.results = s.results ++ [r] := by
  obtain ⟨cs, r, hans, he⟩ := hrun
  cases (asRequest_server hr he).symm.trans hx
  exact ⟨r, hans, rfl⟩

theorem writeSingle_answers {i : Instr} (hreads : readsAsked i = []) (hpoll : pollChannel i = none) (reg : U32)
    (v : Value) (s : State) : ∃ cs r, AnswersRequest r i ∧ writeSingle reg v s = afterCalls s cs r :=
  ⟨_, _, .write _ hreads hpoll, writeSingle_eq ..⟩

theorem writeMultiple_answers {i : Instr} (hreads : readsAsked i = []) (hpoll : pollChannel i = none) (start : U32)
    (vs : List Value) (s : State) : ∃ cs r, AnswersRequest r i ∧ writeMultiple start vs s = afterCalls s cs r :=
  ⟨_, _, .write _ hreads hpoll, writeMultiple_eq ..⟩

theorem readSingle_answers {i : Instr} {rep : Rep} {reg : U32} (hreads : readsAsked i = [(reg, rep)])
    (hpoll : pollChannel i = none) (s : State) :
    ∃ cs r, AnswersRequest r i ∧ readSingle rep reg s = afterCalls s cs r :=
  ⟨_, _, .read false (List.forall_mem_singleton.2 (readAnswerOf_ok ..)) hreads hpoll, readSingle_eq ..⟩

theorem readMultiple_answers {i : Instr} {rep : Rep} {start count : U32}
    (hreads : readsAsked i = (regRange start count.toNat).map fun reg => (reg, rep)) (hpoll : pollChannel i = none)
    (s : State) : ∃ cs r, AnswersRequest r i ∧ readMultiple rep start count s = afterCalls s cs r :=
  ⟨_, .rres true rep (readEntries s rep start count.toNat),
    .read true (List.all_eq_true.1 (readEntries_ok ..)) (by rw [hreads, readEntries_registers]) hpoll,
    readMultiple_eq ..⟩

/-- A request leaves one record that answers it, where a slot can take a poll's channel. -/
theorem exec_answers {i : Instr} {s t : State} (hr : s.cfg.role = .server) (hreq : i.isRequest = true)
    (hslot : ∀ ch, pollChannel i = some ch → findSlot s.slots ch ≠ none) (hx : exec i s = .next t) :
    ∃ r, AnswersRequest r i ∧ t.results = s.results ++ [r] := by
  cases i with
  | wrI8 | wrI16 | wrI32 | wrF32 => exact asRequest_answers hr hx (writeSingle_answers rfl rfl ..)
  | wrmI8 | wrmI16 | wrmI32 | wrmF32 => exact asRequest_answers hr hx (writeMultiple_answers rfl rfl ..)
  | rdI8 | rdI16 | rdI32 | rdF32 => exact asRequest_answers hr hx (readSingle_answers rfl rfl s)
  | rdmI8 | rdmI16 | rdmI32 | rdmF32 => exact asRequest_answers hr hx (readMultiple_answers rfl rfl s)
  | tunC2S ch bytes =>
    obtain ⟨hnone, -⟩ | ⟨j, -, he⟩ := receiveTunnel_cases ch bytes s
    · exact absurd hnone (hslot ch rfl)
    · cases (asRequest_server hr he).symm.trans hx
      exact ⟨.tres ch j, .poll j rfl rfl, rfl⟩
  | _ => cases hreq

/-- A list of requests leaves one record for each, in order. -/
theorem execAll_answers {l : List Instr} : ∀ {s t : State}, s.cfg.role = .server → (∀ i ∈ l, i.isRequest = true) →
    pollsOk s l → execAll l s = .next t → ∃ rs, List.Forall₂ AnswersRequest rs l ∧ t.results = s.results ++ rs := by
  induction l with
  | nil =>
    intro s t _ _ _ hx
    cases hx
    exact ⟨[], .nil, (List.append_nil _).symm⟩
  | cons i l ih =>
    intro s t hr hreq hpoll hx
    obtain ⟨hi, hl⟩ := List.forall_mem_cons.1 hreq
    obtain ⟨u, hu, -⟩ := exec_cases i s
    obtain ⟨hcfg, -⟩ := exec_frame hu
    obtain ⟨r, hans, hres⟩ := exec_answers hr hi (fun ch hch => (hpoll i List.mem_cons_self ch hch).2) hu
    simp only [execAll, hu] at hx
    obtain ⟨rs, hall, hrest⟩ := ih (hcfg ▸ hr) hl (pollsOk_tail hpoll u) hx
    exact ⟨r :: rs, .cons hans hall, by rw [hrest, hres, List.append_assoc]; rfl⟩

theorem records_valid {rs : List ResultRec} {l : List Instr} (hall : List.Forall₂ AnswersRequest rs l) :
    ∀ r ∈ rs, consecutive (recordRegisters r) ∧ answersOk r :=
  ((List.forall₂_and_left rs l).1 (hall.imp fun _ _ hans => ⟨⟨hans.consecutive, hans.answersOk⟩, hans⟩)).1

/-! The tunnel data collected. -/

theorem composeOne_tunnel {bufferSize : Nat} (h : 16 ≤ bufferSize) (slots : List Slot) {r : ResultRec}
    (hr : consecutive (recordRegisters r)) (hok : answersOk r) :
    (collected (composeOne bufferSize slots r).1).tunnel.map Prod.fst = (recordChannel r).toList := by
  match r with
  | .wres errors => rw [composeOne, collected_werr]; rfl
  | .rres false rep entries => rw [composeOne, collected_composeRead]; rfl
  | .rres true rep entries =>
    have hall : collected (composeReads bufferSize rep [] entries) = answersOf entries :=
      composeReads_collected h rep entries [] hr (List.forall_mem_nil _) hok
    rw [composeOne, hall]
    rfl
  | .tres ch i => rfl

theorem composeAll_tunnel {bufferSize : Nat} (h : 16 ≤ bufferSize) {rs : List ResultRec} {l : List Instr}
    (hall : List.Forall₂ AnswersRequest rs l) : ∀ slots,
      (collected (composeAll bufferSize rs slots).1).tunnel.map Prod.fst =
        l.flatMap fun i => (pollChannel i).toList := by
  induction hall with
  | nil => exact fun _ => rfl
  | cons hans _ ih =>
    intro slots
    simp only [composeAll, collected_append, Mentions.add, List.map_append, List.flatMap_cons, ih,
      composeOne_tunnel h slots hans.consecutive hans.answersOk, hans.channel]

/-- A request with polls in order polls the one channel that its record names. -/
theorem flatMap_pollChannel {s : State} {l : List Instr} (h : pollsOk s l) :
    (l.flatMap fun i => (pollChannel i).toList) = (l.findSome? pollChannel).toList := by
  match l with
  | [] => rfl
  | [i] => cases hi : pollChannel i <;> simp [hi]
  | i :: j :: l =>
    have hnone : ∀ k ∈ i :: j :: l, pollChannel k = none := by
      intro k hk
      by_contra hne
      obtain ⟨ch, hch⟩ := Option.ne_none_iff_exists'.1 hne
      obtain ⟨hone, -⟩ := h k hk ch hch
      simp at hone
    rw [List.findSome?_eq_none_iff.2 hnone]
    exact List.flatMap_eq_nil_iff.2 fun k hk => by rw [hnone k hk]; rfl

/-! The verdict. -/

/-- Entries that answer the reads one by one, and tunnel data of just the channel expected, cover a request. -/
theorem coverage_eq_ok {req : CliReq} {m : Mentions} (hreads : List.Forall₂ answersRead m.reads req.expectReads)
    (htunnel : m.tunnel.map Prod.fst = req.expectTunnel.toList) : coverage req m = .ok := by
  have hok : readsVerdict (matchReads m.reads req.expectReads) = .ok := by rw [matchReads_of_answers hreads]; rfl
  cases hexp : req.expectTunnel with
  | none =>
    rw [hexp] at htunnel
    exact (coverage_of_noTunnel hexp (List.map_eq_nil_iff.1 htunnel)).trans hok
  | some ch =>
    rw [hexp] at htunnel
    obtain ⟨⟨c, bytes⟩, hm, rfl⟩ := List.map_eq_singleton_iff.1 htunnel
    exact (coverage_of_tunnelAsAsked hexp hm).trans hok

/-- Settles O38: the records answer the request one by one, and what the client collects is what they hold. -/
theorem wholeReplyCoversRequest : Obligations.WholeReplyCoversRequest := by
  intro s t c u req hwf hr hempty hreq hpoll hx hc hnone hu
  obtain ⟨rs, hall, hres⟩ := execAll_answers hr hreq hpoll hx
  rw [hempty, List.nil_append] at hres
  have hwf' : t.cfg.wf = true := execAll_cfg hx ▸ hwf
  obtain ⟨hbuf, -⟩ := bufferSize_bounds hwf'
  obtain ⟨hreads, -⟩ := composeAll_collected hbuf t.slots (fun r hmem => (records_valid hall r hmem).1)
    fun r hmem => (records_valid hall r hmem).2
  cases (execAll_replies hc (composedReply_isReply hwf')).symm.trans hu
  rw [State.addMentions_mentions_eq_add, hnone, Mentions.empty_add, composedReply, hres]
  refine coverage_eq_ok ?_ ((composeAll_tunnel hbuf hall t.slots).trans (flatMap_pollChannel hpoll))
  rw [hreads]
  exact List.rel_flatMap hall fun _ _ => AnswersRequest.reads

end Sys2Proof.Machine
end

section
/-! PROOF. Nothing stops the block: every step answers a next state, and the internal actions of a server go where
42_dispatcher.md R140 lists (60_exceptions.md R258). -/

namespace Sys2Proof.Machine

open Sys2Proof

/-! Every step goes on. -/

theorem dispatchStep_goesOn (s : State) : goesOn (dispatchStep s) := by
  obtain ⟨-, hd⟩ | ⟨u, -, ⟨-, hd⟩ | ⟨-, hd⟩⟩ := dispatchStep_cases s
  all_goals exact ⟨_, hd⟩

theorem takeReply_goesOn (req : CliReq) (s : State) : goesOn (takeReply req s) := by
  obtain he | ⟨-, -, v, -, -, -, he⟩ := takeReply_cases req s
  all_goals exact ⟨_, he⟩

theorem clientCheck_goesOn (s : State) : goesOn (clientCheck s) := by
  obtain he | he | he | ⟨req, -, -, -, -, he⟩ := clientCheck_cases s
  · exact ⟨_, he⟩
  · exact ⟨_, he⟩
  · exact ⟨_, he⟩
  · exact he ▸ takeReply_goesOn req s

theorem receiveByte_goesOn (b : Byte) (s : State) : goesOn (receiveByte b s) := by
  unfold receiveByte
  split
  · exact clientCheck_goesOn _
  · exact ⟨_, rfl⟩

/-- No port event stops the block; only a received byte needs a proof, since a client may execute a reply on it. -/
theorem handle_goesOn (e : PortEvent) (s : State) : goesOn (handle e s) := by
  cases e with
  | rxByte b => exact receiveByte_goesOn b s
  | _ => exact ⟨_, rfl⟩

theorem step_goesOn (s : State) : goesOn (step s) := by
  cases step_cases s with
  | event e a b _ _ _ _ ho => exact ho ▸ handle_goesOn e { s with inputs := a ++ b }
  | validate _ _ ho => exact ⟨_, ho⟩
  | dispatch _ _ ho => exact ho ▸ dispatchStep_goesOn s
  | compose _ _ ho => exact ⟨_, ho⟩
  | wait ho => exact ⟨_, ho⟩

/-! Where the internal actions of a server lead. -/

theorem droppedFrame_srvState {s : State} (hr : s.cfg.role = .server) (k : ErrorKind) :
    (droppedFrame k s).srvState = .idle :=
  if_pos hr

theorem takeError_malformed_srvState {s : State} (hr : s.cfg.role = .server) :
    (s.takeError .malformedSubframe).srvState = .idle := by
  rw [State.takeError_malformed_server s hr]
  rfl

theorem validateStep_srvState {s : State} (hr : s.cfg.role = .server) :
    (validateStep s).srvState = .dispatch ∨ (validateStep s).srvState = .idle := by
  by_cases hc : checksumOk s = true
  · by_cases hd : destinationOk s = true
    · rw [validateStep_of_good hc hd]
      exact .inl rfl
    · rw [validateStep_of_badDestination hc hd]
      exact .inr (droppedFrame_srvState hr _)
  · rw [validateStep_of_badChecksum hc]
    exact .inr (droppedFrame_srvState hr _)

/-- A server that executes subframes in `DISPATCH`, or that has taken an error doing so. -/
def State.Dispatching (s : State) : Prop :=
  s.cfg.role = .server ∧ (s.srvState = .dispatch ∨ s.srvState = .idle)

theorem State.Dispatching.takeError_malformed {s : State} (h : s.Dispatching) :
    (s.takeError .malformedSubframe).Dispatching := by
  obtain ⟨hr, -⟩ := h
  exact ⟨(State.takeError_cfg ..).symm ▸ hr, .inr (takeError_malformed_srvState hr)⟩

/-- Executing one subframe leaves `DISPATCH` for `IDLE` only, whatever its class and whichever slots are free. -/
theorem State.Dispatching.exec {i : Instr} {s t : State} (h : s.Dispatching) (hx : exec i s = .next t) :
    t.Dispatching := by
  obtain ⟨u, hu, hcase⟩ := exec_cases i s
  cases hu.symm.trans hx
  cases hcase with
  | wrongEnd _ ht => exact ht ▸ h.takeError_malformed
  | calls _ _ cs r _ ht => exact ht ▸ h
  | poll _ ch bytes _ ht =>
    subst ht
    obtain ⟨-, he⟩ | ⟨i, -, he⟩ := receiveTunnel_cases ch bytes s
    · exact he ▸ h.takeError_malformed
    · exact he ▸ h
  | mention _ m ht => exact ht ▸ h

theorem State.Dispatching.execAll {l : List Instr} {s t : State} (h : s.Dispatching) (hx : execAll l s = .next t) :
    t.Dispatching :=
  execAll_keeps (fun _ _ _ _ hu hi => hu.exec hi) h hx

theorem State.Dispatching.toCompose {s : State} (h : s.Dispatching) :
    (toCompose s).srvState = .compose ∨ (toCompose s).srvState = .idle := by
  obtain ⟨-, hs | hs⟩ := h
  · exact .inl (by rw [toCompose_of_dispatch hs])
  · exact .inr (by simp only [Machine.toCompose, hs])

/-- The `DISPATCH` step goes on to `COMPOSE`, or to `IDLE` where it took an error (42_dispatcher.md R140, R149). -/
theorem dispatchStep_srvState {s t : State} (hr : s.cfg.role = .server) (hs : s.srvState = .dispatch)
    (hx : dispatchStep s = .next t) : t.srvState = .compose ∨ t.srvState = .idle := by
  have hscan : ({ s with scanOutcome := (judge s).1, scanList := (judge s).2 } : State).Dispatching := ⟨hr, .inl hs⟩
  obtain ⟨-, hd⟩ | ⟨u, hu, ⟨-, hd⟩ | ⟨-, hd⟩⟩ := dispatchStep_cases s <;> cases hd.symm.trans hx
  · exact .inr (takeError_malformed_srvState hr)
  · exact (hscan.execAll hu).toCompose
  · have hexec : u.Dispatching := hscan.execAll hu
    have hcounted : (u.takeError .unknownSubframe).Dispatching := hexec
    exact hcounted.toCompose

theorem composeStep_srvState (s : State) : (composeStep s).srvState = .send ∨ (composeStep s).srvState = .idle := by
  unfold composeStep
  split
  · exact .inl rfl
  · exact .inr rfl

/-- Settles O57: every step goes on, and each internal action leads to the states listed for it. -/
theorem nothingStopsTheBlock : Obligations.NothingStopsTheBlock := by
  intro s
  obtain ⟨t, ht⟩ := step_goesOn s
  refine ⟨t, ht, fun hr hn => ⟨fun hs => ?_, fun hs => ?_, fun hs => ?_⟩⟩
  · cases (step_of_validate hr hs hn).symm.trans ht
    exact validateStep_srvState hr
  · exact dispatchStep_srvState hr hs ((step_of_dispatch hr hs hn).symm.trans ht)
  · cases (step_of_compose hr hs hn).symm.trans ht
    exact composeStep_srvState s

end Sys2Proof.Machine
end

section
/-! PROOF. `NODE_ID` and the parameters over a step: only the config port, the control registers and the reset input
reach them (60_exceptions.md R260, 10_state.md R22, R26). -/

namespace Sys2Proof.Machine

open Sys2Proof

/-- What sets one node apart from another: `NODE_ID` and the parameters of 00_scope.md R6. -/
def State.identity (s : State) : Byte × Config :=
  (s.nodeId, s.cfg)

theorem State.identity_eq_iff (s t : State) :
    t.identity = s.identity ↔ t.nodeId = s.nodeId ∧ t.cfg = s.cfg := by
  rw [State.identity, State.identity, Prod.mk.injEq]

/-! The operations that the rules of the wire are made of. -/

@[simp] theorem State.takeError_identity (s : State) (k : ErrorKind) : (s.takeError k).identity = s.identity := by
  simp [State.identity]

@[simp] theorem State.discardFrame_identity (s : State) : s.discardFrame.identity = s.identity := rfl

@[simp] theorem State.resolve_identity (s : State) (r : CliResult) : (s.resolve r).identity = s.identity := rfl

@[simp] theorem droppedFrame_identity (k : ErrorKind) (s : State) : (droppedFrame k s).identity = s.identity := rfl

/-! Receiving a frame. -/

theorem rxLengthEnd_identity (s : State) : (rxLengthEnd s).identity = s.identity := by
  rw [rxLengthEnd_eq]
  split <;> rfl

theorem rxLength_identity (b : Byte) (s : State) : (rxLength b s).identity = s.identity := by
  rw [rxLength_eq]
  split
  · split <;> rfl
  · exact rxLengthEnd_identity _

theorem rxHunt_identity (b : Byte) (s : State) : (rxHunt b s).identity = s.identity := by
  unfold rxHunt
  split <;> rfl

theorem rxHeader_identity (b : Byte) (s : State) : (rxHeader b s).identity = s.identity := by
  unfold rxHeader
  split
  · rfl
  · split <;> rfl

theorem rxPayload_identity (b : Byte) (s : State) : (rxPayload b s).identity = s.identity := by
  unfold rxPayload
  dsimp only
  split <;> rfl

/-- No phase of the receiver reaches `NODE_ID`. -/
theorem rxTake_identity (b : Byte) (s : State) : (rxTake b s).identity = s.identity := by
  unfold rxTake
  cases s.rxPhase with
  | h0 => exact rxHunt_identity b s
  | h1 => exact rxHeader_identity b s
  | len => exact rxLength_identity b s
  | pay => exact rxPayload_identity b s
  | src | dst | crc0 | crc1 => rfl

theorem rxClose_identity (s : State) : (rxClose s).identity = s.identity := by
  unfold rxClose
  split
  · rfl
  · split <;> rfl

/-! Executing subframes, at either end. -/

theorem execAll_identity {l : List Instr} {s t : State} (hx : execAll l s = .next t) : t.identity = s.identity :=
  execAll_keeps (P := fun u => u.identity = s.identity)
    (fun _ _ u v hu hv => by
      obtain ⟨hcfg, hid, -⟩ := exec_frame hv
      exact ((State.identity_eq_iff u v).2 ⟨hid, hcfg⟩).trans hu)
    rfl hx

theorem conclude_identity (req : CliReq) (s : State) : (conclude req s).identity = s.identity := by
  unfold conclude
  split
  · simp
  · split <;> simp

theorem takeReply_identity {req : CliReq} {s t : State} (hx : takeReply req s = .next t) :
    t.identity = s.identity := by
  obtain he | ⟨l, u, v, -, hu, hv, he⟩ := takeReply_cases req s <;> cases he.symm.trans hx
  · simp
  · have hstart : u.identity = s.identity := by
      obtain rfl | rfl := hu <;> simp
    calc (conclude req v).identity
        = v.identity := conclude_identity req v
      _ = u.identity := execAll_identity hv
      _ = s.identity := hstart

theorem clientCheck_identity {s t : State} (hx : clientCheck s = .next t) : t.identity = s.identity := by
  obtain he | he | he | ⟨req, -, -, -, -, he⟩ := clientCheck_cases s
  · cases he.symm.trans hx
    simp
  · cases he.symm.trans hx
    simp
  · cases he.symm.trans hx
    simp
  · exact takeReply_identity (he.symm.trans hx)

theorem receiveByte_identity {b : Byte} {s t : State} (hx : receiveByte b s = .next t) :
    t.identity = s.identity := by
  unfold receiveByte at hx
  split at hx
  · exact (clientCheck_identity hx).trans (rxTake_identity b s)
  · cases hx
    exact rxTake_identity b s

/-! The internal actions of a server. -/

theorem validateStep_identity (s : State) : (validateStep s).identity = s.identity := by
  unfold validateStep
  split
  · split
    · rfl
    · simp
  · simp

theorem toCompose_identity (s : State) : (toCompose s).identity = s.identity := by
  unfold toCompose
  split <;> rfl

theorem dispatchStep_identity {s t : State} (hx : dispatchStep s = .next t) : t.identity = s.identity := by
  obtain ⟨-, hd⟩ | ⟨u, hu, ⟨-, hd⟩ | ⟨-, hd⟩⟩ := dispatchStep_cases s <;> cases hd.symm.trans hx
  · exact State.takeError_identity ..
  all_goals have hexec := execAll_identity hu
  · exact (toCompose_identity u).trans hexec
  · exact (toCompose_identity _).trans ((State.takeError_identity ..).trans hexec)

theorem composeStep_identity (s : State) : (composeStep s).identity = s.identity := by
  unfold composeStep
  split <;> rfl

/-! The ports other than config, control and reset. -/

theorem clientTxDone_identity (ok : Bool) (s : State) : (clientTxDone ok s).identity = s.identity := by
  unfold clientTxDone
  split
  · split
    · split <;> rfl
    · rfl
  · rfl

theorem txDone_identity (ok : Bool) (s : State) : (txDone ok s).identity = s.identity := by
  unfold txDone
  split
  · rfl
  · exact clientTxDone_identity ok s

theorem appAlloc_identity (ch : U32) (s : State) : (appAlloc ch s).identity = s.identity := by
  unfold appAlloc
  split <;> rfl

theorem appRead_identity (ch : U32) (n : Nat) (s : State) : (appRead ch n s).identity = s.identity := by
  unfold appRead
  split <;> rfl

theorem appWrite_identity (ch : U32) (bytes : List Byte) (s : State) :
    (appWrite ch bytes s).identity = s.identity := by
  unfold appWrite
  split <;> rfl

theorem requestStep_identity (req : Request) (s : State) : (requestStep req s).identity = s.identity := by
  unfold requestStep
  split <;> rfl

theorem timeoutStep_identity (s : State) : (timeoutStep s).identity = s.identity := by
  unfold timeoutStep
  split <;> rfl

theorem controlWrite_cfg (i : Nat) (v : U32) (s : State) : (controlWrite i v s).cfg = s.cfg := by
  cases i <;> rfl

/-! One step. -/

/-- What a step can do to `NODE_ID` and the parameters, by what was on offer: nothing, or a write of `NODE_ID` alone, or
a reset that brings a `STORED_ID`. -/
inductive IdentityCase (offered : PortEvent → Prop) (old new : Byte × Config) : Prop where
  | kept (h : new = old)
  | configWrite (v : Byte) (ho : offered (.configWrite v)) (h : new.2 = old.2)
  | controlWrite (i : Nat) (v : U32) (ho : offered (.controlWrite i v)) (h : new.2 = old.2)
  | reset (stored : Option Byte) (ho : offered (.reset stored)) (h : new.2 = { old.2 with storedId := stored })

theorem handle_identityCase {e : PortEvent} {s t : State} {offered : PortEvent → Prop} (ho : offered e)
    (hx : handle e s = .next t) : IdentityCase offered s.identity t.identity := by
  cases e with
  | rxByte b => exact .kept (receiveByte_identity hx)
  | rxClose => cases hx; exact .kept (rxClose_identity s)
  | txDone ok => cases hx; exact .kept (txDone_identity ok s)
  | appAlloc ch => cases hx; exact .kept (appAlloc_identity ch s)
  | appRead ch n => cases hx; exact .kept (appRead_identity ch n s)
  | appWrite ch bytes => cases hx; exact .kept (appWrite_identity ch bytes s)
  | configWrite v => cases hx; exact .configWrite v ho rfl
  | controlWrite i v => cases hx; exact .controlWrite i v ho (controlWrite_cfg i v s)
  | configRead | statsRead | controlRead | result => cases hx; exact .kept rfl
  | request req => cases hx; exact .kept (requestStep_identity req s)
  | timeout => cases hx; exact .kept (timeoutStep_identity s)
  | reset stored => cases hx; exact .reset stored ho rfl

/-- The event stands among the offers of `s`. -/
def State.offers (s : State) (e : PortEvent) : Prop :=
  ∃ o ∈ s.inputs, o.event = e

theorem step_identityCase {s t : State} (hx : step s = .next t) : IdentityCase s.offers s.identity t.identity := by
  cases step_cases s with
  | event e a b o hi he _ ho =>
    have hoff : s.offers e := ⟨o, by simp [hi], he⟩
    exact handle_identityCase (s := { s with inputs := a ++ b }) hoff (ho.symm.trans hx)
  | validate _ _ ho =>
    cases ho.symm.trans hx
    exact .kept (validateStep_identity s)
  | dispatch _ _ ho => exact .kept (dispatchStep_identity (ho.symm.trans hx))
  | compose _ _ ho =>
    cases ho.symm.trans hx
    exact .kept (composeStep_identity s)
  | wait ho =>
    cases ho.symm.trans hx
    exact .kept rfl

/-- Settles O59: of what a step can do to `NODE_ID` and the parameters, each premise rules out the events it names. -/
theorem nodeIdIsNotReachableFromWire : Obligations.NodeIdIsNotReachableFromWire := by
  intro s t hx
  cases step_identityCase hx with
  | kept h =>
    obtain ⟨hid, hcfg⟩ := (State.identity_eq_iff s t).1 h
    exact ⟨fun _ => hid, by rw [hcfg], fun _ => hcfg⟩
  | configWrite v ho h =>
    have hcfg : t.cfg = s.cfg := h
    obtain ⟨o, hmem, he⟩ := ho
    exact ⟨fun ⟨_, hno, _⟩ => absurd he (hno o hmem v), by rw [hcfg], fun _ => hcfg⟩
  | controlWrite i v ho h =>
    have hcfg : t.cfg = s.cfg := h
    obtain ⟨o, hmem, he⟩ := ho
    exact ⟨fun ⟨_, _, hno⟩ => absurd he (hno o hmem i v), by rw [hcfg], fun _ => hcfg⟩
  | reset stored ho h =>
    have hcfg : t.cfg = { s.cfg with storedId := stored } := h
    obtain ⟨o, hmem, he⟩ := ho
    exact ⟨fun ⟨hno, _⟩ => absurd he (hno o hmem stored), by rw [hcfg], fun hno => absurd he (hno o hmem stored)⟩

end Sys2Proof.Machine
end

section
/-! PROOF. Reset (70_reset_and_hazards.md R280, R281): the state it leaves and the reset input. -/

namespace Sys2Proof.Machine

open Sys2Proof

/-- `DEFAULT_ID` is an id of seven bits, so `NODE_ID` takes it whole (00_scope.md R6, 10_state.md R21). -/
theorem nodeIdOf_defaultId {c : Config} (h : c.wf = true) : nodeIdOf c.defaultId = c.defaultId := by
  simp only [Config.wf, Bool.and_eq_true, decide_eq_true_eq] at h
  obtain ⟨⟨-, hid⟩, -⟩ := h
  refine BitVec.eq_of_toNat_eq ?_
  rw [nodeIdOf_toNat]
  exact Nat.mod_eq_of_lt (Nat.lt_succ_of_le hid)

theorem Stats.zero_get (k : ErrorKind) : Stats.zero.get k = 0#32 := by
  cases k <;> rfl

theorem resetSlots_length_server {c : Config} (h : c.role = .server) :
    (resetSlots c).length = c.maxTunnelStreams := by
  rw [resetSlots, h]
  exact List.length_replicate

/-- Settles O53: `NODE_ID`, the counters and the slots have lemmas of their own; the other registers stand in
`State.resetWith` as they are. -/
theorem resetValues : Obligations.ResetValues := by
  intro c hc s
  have hid : s.nodeId = nodeIdOf (c.storedId.getD c.defaultId) := rfl
  have hstored : ∀ v, c.storedId = some v → s.nodeId.toNat = v.toNat % 128 := by
    intro v hv
    rw [hid, hv]
    exact nodeIdOf_toNat v
  have hdefault : c.storedId = none → s.nodeId = c.defaultId := by
    intro hn
    rw [hid, hn]
    exact nodeIdOf_defaultId hc
  have hslots : ∀ sl ∈ s.slots, sl.bound = false ∧ sl.inFifo = [] ∧ sl.outFifo = [] := by
    intro sl hsl
    rw [resetSlots_free hsl]
    exact ⟨rfl, rfl, rfl⟩
  exact ⟨hstored, hdefault, Stats.zero_get, rfl, rfl, rfl, rfl, rfl, rfl, rfl, rfl, rfl, rfl, rfl, rfl, rfl, rfl,
    resetSlots_length_server, hslots⟩

/-- What the reset input gives out: a frame that stood offered on TX is withdrawn. -/
theorem resetInput_outputs (stored : Option Byte) (s : State) :
    (resetInput stored s).outputs = s.outputs ++ if txPending s = true then [.txWithdrawn] else [] := by
  unfold resetInput
  split <;> simp

/-- Settles O54: a frame stands offered exactly where `txPending` says so. -/
theorem resetInputBuildsAnew : Obligations.ResetInputBuildsAnew := by
  intro s stored fresh sending
  have hsending : txPending s = true ↔ sending := txPending_iff s
  rw [← hsending]
  refine ⟨if txPending s = true then [.txWithdrawn] else [], ?_, ?_, ?_⟩
  · exact ite_eq_left_iff.trans (by simp)
  · exact ite_eq_right_iff.trans (by simp)
  · rw [← resetInput_outputs stored s]
    rfl

/-- Settles O55. -/
theorem resetHasInvariant : Obligations.ResetHasInvariant :=
  resetWith_inv

end Sys2Proof.Machine
end

section
/-! PROOF. What every step but a reset retains: the counters do not go down and the bindings stay (10_state.md R25, R33,
70_reset_and_hazards.md R281). -/

namespace Sys2Proof.Machine

open Sys2Proof

/-- `t` has the offers of `s`, no counter below its own, and all its bindings. -/
structure State.Retains (s t : State) : Prop where
  inputs : t.inputs = s.inputs
  counters : ∀ k, (s.stats.get k).toNat ≤ (t.stats.get k).toNat
  bindings : ∀ ch i, bindsAt s.slots ch i → bindsAt t.slots ch i

/-- An operation on other registers. -/
theorem State.Retains.of_eq {s t : State} (hi : t.inputs = s.inputs) (hst : t.stats = s.stats)
    (hsl : t.slots = s.slots) : s.Retains t where
  inputs := hi
  counters _ := by rw [hst]
  bindings _ _ := by rw [hsl]; exact id

/-- An operation on the slots, among other registers. -/
theorem State.Retains.of_slotsKept {s t : State} {capacity : Nat} (hi : t.inputs = s.inputs)
    (hst : t.stats = s.stats) (hsl : SlotsKept capacity s.slots t.slots) : s.Retains t where
  inputs := hi
  counters _ := by rw [hst]
  bindings := hsl.binds

theorem State.Retains.refl (s : State) : s.Retains s :=
  .of_eq rfl rfl rfl

theorem State.Retains.trans {s t u : State} (hst : s.Retains t) (htu : t.Retains u) : s.Retains u where
  inputs := htu.inputs.trans hst.inputs
  counters k := (hst.counters k).trans (htu.counters k)
  bindings ch i := htu.bindings ch i ∘ hst.bindings ch i

theorem Slot.holds_iff (ch : U32) (sl : Slot) : sl.holds ch = true ↔ sl.bound = true ∧ sl.chan = ch := by
  rw [Slot.holds, Bool.and_eq_true, decide_eq_true_eq]

/-- A bound slot stays bound to its channel. -/
theorem State.Retains.bound {s t : State} (h : s.Retains t) {j : Nat} {sl : Slot} (hj : s.slots[j]? = some sl)
    (hb : sl.bound = true) : ∃ sl' : Slot, t.slots[j]? = some sl' ∧ sl'.bound = true ∧ sl'.chan = sl.chan := by
  obtain ⟨sl', hsl', hh⟩ := h.bindings sl.chan j ⟨sl, hj, (Slot.holds_iff ..).2 ⟨hb, rfl⟩⟩
  exact ⟨sl', hsl', (Slot.holds_iff ..).1 hh⟩

/-! Errors. -/

theorem Stats.get_le_get_bump (st : Stats) (k j : ErrorKind) : (st.get j).toNat ≤ ((st.bump k).get j).toNat := by
  rw [Stats.get_bump]
  split
  · next h => exact h ▸ le_satInc _
  · exact le_rfl

theorem State.takeError_retains (s : State) (k : ErrorKind) : s.Retains (s.takeError k) where
  inputs := State.takeError_inputs s k
  counters j := by
    rw [State.takeError_stats]
    exact Stats.get_le_get_bump s.stats k j
  bindings _ _ := by
    rw [State.takeError_slots]
    exact id

theorem State.discardFrame_retains (s : State) : s.Retains s.discardFrame :=
  .of_eq rfl rfl rfl

theorem State.resolve_retains (s : State) (r : CliResult) : s.Retains (s.resolve r) :=
  .of_eq rfl rfl rfl

/-! The receiver. -/

theorem rxHunt_retains (b : Byte) (s : State) : s.Retains (rxHunt b s) := by
  unfold rxHunt
  split
  · exact .of_eq rfl rfl rfl
  · exact .refl s

theorem rxHeader_retains (b : Byte) (s : State) : s.Retains (rxHeader b s) := by
  unfold rxHeader
  split
  · exact .of_eq rfl rfl rfl
  · split <;> exact .of_eq rfl rfl rfl

theorem rxLengthEnd_retains (s : State) : s.Retains (rxLengthEnd s) := by
  unfold rxLengthEnd
  split
  · exact s.takeError_retains _
  · split <;> exact .of_eq rfl rfl rfl

theorem rxLength_retains (b : Byte) (s : State) : s.Retains (rxLength b s) := by
  unfold rxLength
  extract_lets t
  have ht : s.Retains t := .of_eq rfl rfl rfl
  split
  · split
    · exact ht.trans (t.takeError_retains _)
    · exact ht
  · exact ht.trans (rxLengthEnd_retains t)

theorem rxPayload_retains (b : Byte) (s : State) : s.Retains (rxPayload b s) := by
  unfold rxPayload
  dsimp only
  split <;> exact .of_eq rfl rfl rfl

theorem rxTake_retains (b : Byte) (s : State) : s.Retains (rxTake b s) := by
  unfold rxTake
  cases s.rxPhase with
  | h0 => exact rxHunt_retains b s
  | h1 => exact rxHeader_retains b s
  | len => exact rxLength_retains b s
  | pay => exact rxPayload_retains b s
  | src | dst | crc0 | crc1 => exact .of_eq rfl rfl rfl

theorem rxClose_retains (s : State) : s.Retains (rxClose s) := by
  unfold rxClose
  split
  · exact s.discardFrame_retains
  · split <;> exact .of_eq rfl rfl rfl

/-! Executing subframes, at either end. -/

/-- A tunnel poll binds a free slot at most, and pushes into the slot it found (44_tunnel.md R211, R214). -/
theorem receiveTunnel_retains (ch : U32) (bytes : List Byte) (s : State) : s.Retains (receiveTunnel ch bytes s) := by
  obtain ⟨-, he⟩ | ⟨i, hi, he⟩ := receiveTunnel_cases ch bytes s <;> rw [he]
  · exact s.takeError_retains _
  · exact .of_slotsKept rfl rfl ((slotsKept_bindAt hi).trans (slotsKept_pushIn (bindAt_bindsAt hi) bytes))

theorem exec_retains {i : Instr} {s t : State} (hx : exec i s = .next t) : s.Retains t := by
  obtain ⟨u, hu, hcase⟩ := exec_cases i s
  cases hu.symm.trans hx
  cases hcase with
  | wrongEnd _ ht => exact ht ▸ s.takeError_retains _
  | calls _ _ cs r _ ht => exact ht ▸ .of_eq rfl rfl rfl
  | poll _ ch bytes _ ht => exact ht ▸ receiveTunnel_retains ch bytes s
  | mention _ m ht => exact ht ▸ .of_eq rfl rfl rfl

theorem execAll_retains {l : List Instr} {s t : State} (hx : execAll l s = .next t) : s.Retains t :=
  execAll_keeps (P := s.Retains) (fun _ _ _ _ hu hv => hu.trans (exec_retains hv)) (.refl s) hx

theorem conclude_retains (req : CliReq) (s : State) : s.Retains (conclude req s) := by
  unfold conclude
  split
  · exact s.takeError_retains _
  · split
    · exact (s.takeError_retains _).trans (State.resolve_retains ..)
    · exact s.resolve_retains _

theorem takeReply_retains {req : CliReq} {s t : State} (hx : takeReply req s = .next t) : s.Retains t := by
  have hcleared := s.discardFrame_retains
  obtain he | ⟨l, u, v, -, hu, hv, he⟩ := takeReply_cases req s <;> cases he.symm.trans hx
  · exact hcleared.trans (State.takeError_retains ..)
  · have hstart : s.Retains u := by
      obtain rfl | rfl := hu
      · exact hcleared
      · exact hcleared.trans (State.takeError_retains ..)
    exact (hstart.trans (execAll_retains hv)).trans (conclude_retains req v)

theorem clientCheck_retains {s t : State} (hx : clientCheck s = .next t) : s.Retains t := by
  obtain he | he | he | ⟨req, -, -, -, -, he⟩ := clientCheck_cases s
  · cases he.symm.trans hx
    exact s.discardFrame_retains
  · cases he.symm.trans hx
    exact s.takeError_retains _
  · cases he.symm.trans hx
    exact s.takeError_retains _
  · exact takeReply_retains (he.symm.trans hx)

theorem receiveByte_retains {b : Byte} {s t : State} (hx : receiveByte b s = .next t) : s.Retains t := by
  unfold receiveByte at hx
  split at hx
  · exact (rxTake_retains b s).trans (clientCheck_retains hx)
  · cases hx
    exact rxTake_retains b s

/-! The internal actions of a server. -/

theorem validateStep_retains (s : State) : s.Retains (validateStep s) := by
  unfold validateStep
  split
  · split
    · exact .of_eq rfl rfl rfl
    · exact s.takeError_retains _
  · exact s.takeError_retains _

theorem toCompose_retains (s : State) : s.Retains (toCompose s) := by
  unfold toCompose
  split <;> exact .of_eq rfl rfl rfl

theorem dispatchStep_retains {s t : State} (hx : dispatchStep s = .next t) : s.Retains t := by
  have hscan : s.Retains { s with scanOutcome := (judge s).1, scanList := (judge s).2 } := .of_eq rfl rfl rfl
  obtain ⟨-, hd⟩ | ⟨u, hu, hd⟩ := dispatchStep_cases s
  · cases hd.symm.trans hx
    exact hscan.trans (State.takeError_retains ..)
  · have hexec : s.Retains u := hscan.trans (execAll_retains hu)
    obtain ⟨-, hd⟩ | ⟨-, hd⟩ := hd <;> cases hd.symm.trans hx
    · exact hexec.trans (toCompose_retains u)
    · exact (hexec.trans (u.takeError_retains _)).trans (toCompose_retains _)

/-- A reply takes outbound bytes out of the slots and no more (44_tunnel.md R213). -/
theorem composeStep_retains (s : State) : s.Retains (composeStep s) := by
  unfold composeStep
  split
  · exact .of_slotsKept rfl rfl (slotsKept_composeAll s.cfg.tunnelCapacity s.cfg.bufferSize s.results s.slots)
  · exact .of_eq rfl rfl rfl

/-! The ports. -/

theorem clientTxDone_retains (ok : Bool) (s : State) : s.Retains (clientTxDone ok s) := by
  unfold clientTxDone
  split
  · split
    · split <;> exact .of_eq rfl rfl rfl
    · exact s.resolve_retains _
  · exact s.resolve_retains _

theorem txDone_retains (ok : Bool) (s : State) : s.Retains (txDone ok s) := by
  unfold txDone
  split
  · exact .of_eq rfl rfl rfl
  · exact clientTxDone_retains ok s

theorem appAlloc_retains (ch : U32) (s : State) : s.Retains (appAlloc ch s) := by
  cases hi : findSlot s.slots ch with
  | none =>
    rw [appAlloc_of_no_slot hi]
    exact .of_eq rfl rfl rfl
  | some i =>
    rw [appAlloc_of_slot hi]
    exact .of_slotsKept rfl rfl (slotsKept_bindAt (capacity := s.cfg.tunnelCapacity) hi)

theorem appRead_retains (ch : U32) (n : Nat) (s : State) : s.Retains (appRead ch n s) := by
  unfold appRead
  split
  · next i _ => exact .of_slotsKept rfl rfl (slotsKept_popIn s.cfg.tunnelCapacity s.slots i n)
  · exact .of_eq rfl rfl rfl

theorem appWrite_retains (ch : U32) (bytes : List Byte) (s : State) : s.Retains (appWrite ch bytes s) := by
  unfold appWrite
  split
  · next i hi => exact .of_slotsKept rfl rfl (slotsKept_pushOut (boundSlot_bindsAt hi) bytes)
  · exact .of_eq rfl rfl rfl

theorem controlWrite_retains (i : Nat) (v : U32) (s : State) : s.Retains (controlWrite i v s) := by
  cases i <;> exact .of_eq rfl rfl rfl

theorem requestStep_retains (req : Request) (s : State) : s.Retains (requestStep req s) := by
  unfold requestStep
  split <;> exact .of_eq rfl rfl rfl

theorem timeoutStep_retains (s : State) : s.Retains (timeoutStep s) := by
  unfold timeoutStep
  split <;> exact .of_eq rfl rfl rfl

/-- The events other than the reset input. -/
theorem handle_retains {e : PortEvent} {s t : State} (he : ∀ stored, e ≠ .reset stored) (hx : handle e s = .next t) :
    s.Retains t := by
  cases e with
  | rxByte b => exact receiveByte_retains hx
  | rxClose => cases hx; exact rxClose_retains s
  | txDone ok => cases hx; exact txDone_retains ok s
  | appAlloc ch => cases hx; exact appAlloc_retains ch s
  | appRead ch n => cases hx; exact appRead_retains ch n s
  | appWrite ch bytes => cases hx; exact appWrite_retains ch bytes s
  | controlWrite i v => cases hx; exact controlWrite_retains i v s
  | configWrite | configRead | statsRead | controlRead | result => cases hx; exact .of_eq rfl rfl rfl
  | request req => cases hx; exact requestStep_retains req s
  | timeout => cases hx; exact timeoutStep_retains s
  | reset stored => exact absurd rfl (he stored)

/-! One step. -/

/-- Without reset, a step retains all but the offer it takes. -/
theorem step_retains {s t : State} (hno : noResetOffered s) (hx : step s = .next t) :
    ∃ left, ({ s with inputs := left } : State).Retains t := by
  cases step_cases s with
  | event e a b o hi he _ ho =>
    have hmem : o ∈ s.inputs := hi ▸ List.mem_append_right a List.mem_cons_self
    exact ⟨a ++ b, handle_retains (fun stored hr => hno o hmem stored (he.trans hr)) (ho.symm.trans hx)⟩
  | validate _ _ ho =>
    cases ho.symm.trans hx
    exact ⟨s.inputs, validateStep_retains s⟩
  | dispatch _ _ ho => exact ⟨s.inputs, dispatchStep_retains (ho.symm.trans hx)⟩
  | compose _ _ ho =>
    cases ho.symm.trans hx
    exact ⟨s.inputs, composeStep_retains s⟩
  | wait ho =>
    cases ho.symm.trans hx
    exact ⟨s.inputs, .refl s⟩

/-- Settles O58. -/
theorem onlyResetClears : Obligations.OnlyResetClears := by
  intro s t hno hx
  obtain ⟨left, h⟩ := step_retains hno hx
  exact ⟨h.counters, fun j sl hj hb => h.bound hj hb⟩

end Sys2Proof.Machine
end

section
/-! PROOF. The receive stream is taken in its order, and its bytes only where the receive port is open
(70_reset_and_hazards.md R283, 10_state.md R38). -/

namespace Sys2Proof.Machine

open Sys2Proof

/-- The offers of the receive stream, in their order. -/
def receiveStream (l : List Offer) : List Offer :=
  l.filter fun o => o.event.isReceive

theorem receiveStream_cons_of_receive {o : Offer} (h : o.event.isReceive = true) (l : List Offer) :
    receiveStream (o :: l) = o :: receiveStream l :=
  List.filter_cons_of_pos h

theorem receiveStream_cons_of_other {o : Offer} (h : ¬o.event.isReceive = true) (l : List Offer) :
    receiveStream (o :: l) = receiveStream l :=
  List.filter_cons_of_neg h

/-- The first offer taken is the first of the receive stream, or none of it. -/
theorem receiveStream_of_head (o : Offer) (l : List Offer) :
    receiveStream l = receiveStream (o :: l) ∨ receiveStream l = (receiveStream (o :: l)).tail := by
  by_cases h : o.event.isReceive = true
  · rw [receiveStream_cons_of_receive h]
    exact .inr rfl
  · rw [receiveStream_cons_of_other h]
    exact .inl rfl

/-- Behind an offer of the receive stream that is passed over, no other of that stream is taken (log entry 4): what is
taken of it is its first, and only where nothing of it is held. -/
theorem takeOffer_receiveStream {s : State} {e : PortEvent} : ∀ {l left : List Offer} {held : Bool},
    takeOffer s held l = some (e, left) →
      receiveStream left = receiveStream l ∨ held = false ∧ receiveStream left = (receiveStream l).tail := by
  intro l
  induction l with
  | nil => intro left held h; simp [takeOffer] at h
  | cons o rest ih =>
    intro left held h
    rw [takeOffer] at h
    split at h
    · next hc =>
      cases h
      simp only [Bool.and_eq_true, Bool.not_eq_true', Bool.and_eq_false_iff] at hc
      obtain ⟨-, hheld | hother⟩ := hc
      · exact (receiveStream_of_head o rest).imp_right (And.intro hheld)
      · exact .inl (receiveStream_cons_of_other (Bool.not_eq_true _ ▸ hother) rest).symm
    · split at h
      · next hrest =>
        cases h
        by_cases hrec : o.event.isReceive = true
        · rw [receiveStream_cons_of_receive hrec, receiveStream_cons_of_receive hrec]
          obtain hsame | ⟨hheld, -⟩ := ih hrest
          · exact .inl (congrArg _ hsame)
          · simp [hrec] at hheld
        · rw [receiveStream_cons_of_other hrec, receiveStream_cons_of_other hrec]
          exact (ih hrest).imp_right (And.imp_left fun hheld => (Bool.or_eq_false_iff.1 hheld).1)
      · cases h

theorem takeEarly_receiveStream {s : State} {e : PortEvent} {left : List Offer} (h : takeEarly s = some (e, left)) :
    receiveStream left = receiveStream s.inputs ∨ receiveStream left = (receiveStream s.inputs).tail := by
  unfold takeEarly at h
  split at h
  · cases h
  · next o rest hi =>
    split at h
    · cases h
      rw [hi]
      exact receiveStream_of_head o _
    · cases h

/-- No event touches the offers; the reset input leaves them too (log entry 14). -/
theorem handle_inputs {e : PortEvent} {s t : State} (hx : handle e s = .next t) : t.inputs = s.inputs := by
  by_cases he : ∀ stored, e ≠ .reset stored
  · exact (handle_retains he hx).inputs
  · simp only [not_forall, not_not] at he
    obtain ⟨stored, rfl⟩ := he
    cases hx
    rfl

theorem eventStep_receiveStream {s t : State} (hx : eventStep s = .next t) :
    receiveStream t.inputs = receiveStream s.inputs ∨
      receiveStream t.inputs = (receiveStream s.inputs).tail := by
  unfold eventStep at hx
  split at hx
  · next htake =>
    rw [handle_inputs hx]
    exact (takeOffer_receiveStream htake).imp_right And.right
  · cases hx
    exact .inl rfl

/-- A step takes nothing of the receive stream, or its first event. -/
theorem step_receiveStream {s t : State} (hx : step s = .next t) :
    receiveStream t.inputs = receiveStream s.inputs ∨
      receiveStream t.inputs = (receiveStream s.inputs).tail := by
  unfold step blockStep at hx
  split at hx
  · next htake =>
    rw [handle_inputs hx]
    exact takeEarly_receiveStream htake
  · unfold engineStep at hx
    split at hx
    · exact eventStep_receiveStream hx
    · split at hx
      · cases hx
        exact .inl (congrArg _ (validateStep_inputs s))
      · exact .inl (congrArg _ (dispatchStep_inputs hx))
      · cases hx
        exact .inl (congrArg _ (composeStep_inputs s))
      all_goals exact eventStep_receiveStream hx

/-- Where the receive port is closed, a step takes no byte. -/
theorem step_takes_no_byte {s t : State} (hclosed : ¬receiveOpen s = true) (hx : step s = .next t) (b : Byte)
    (mark : Option SrvState) : t.inputs.count ⟨.rxByte b, mark⟩ = s.inputs.count ⟨.rxByte b, mark⟩ := by
  obtain hkept | ⟨l, o, m, hi, ha, ho⟩ := step_takes_or_keeps hx
  · rw [hkept]
  · have hne : o ≠ ⟨.rxByte b, mark⟩ := by
      rintro rfl
      exact hclosed ha
    rw [handle_inputs (ho.symm.trans hx), hi, List.count_append, List.count_append, List.count_cons_of_ne hne]

/-- Settles O18: a server past `ACCUM` has its receive port closed (10_state.md R38). -/
theorem receiveStreamKeepsItsOrder : Obligations.ReceiveStreamKeepsItsOrder := by
  intro s t hx
  refine ⟨step_receiveStream hx, fun hr hs b mark => step_takes_no_byte ?_ hx b mark⟩
  rw [receiveOpen_iff, hr]
  rcases hs with hs | hs | hs | hs <;> simp [hs]

end Sys2Proof.Machine
end
